-- ==== Sys2Proof/Word.lean ====
section
/-! DEFINITION. The words of the LK-16: bytes, 32-bit register words, host addresses, and the
numbers of lanes, slices, slots and engines. -/

namespace Sys2Proof

/-- One byte of a cell, a record, a block or an NVM sector. -/
abbrev Byte := BitVec 8

/-- A 32-bit register, GT value or NVM word. -/
abbrev Word := BitVec 32

/-- A 64-bit host address (Chapter 1, 1.1). -/
abbrev Addr := BitVec 64

/-- A two-byte field: issuer code, day, return count. -/
abbrev Half := BitVec 16

/-- A byte string: it keeps its order wherever it is copied (Introduction, 5.2). -/
abbrev Bytes := List Byte

/-- A lane, 0..15 (Introduction, 2). -/
abbrev LaneNo := Fin 16

/-- A slice of key RAM, 0..31 (R71). -/
abbrev SliceNo := Fin 32

/-- A slot of a slice, 0..7 (R74). -/
abbrev SlotNo := Fin 8

/-- A pass engine, 0 or 1 (R30). -/
abbrev EngineNo := Fin 2

end Sys2Proof
end

