-- ==== Sys2Proof/Syntax.lean ====
section
/-! DEFINITION. The commands of the LK-16: one constructor per row of spec/opcode_table.json, with
the operands the row's rule speaks of. -/

namespace Sys2Proof

/-- How a bus-master read ends: with the contents read, or with a bus error (R9, R1). -/
inductive ReadEnd where
  | contents (bytes : Bytes)
  | busError
  deriving DecidableEq, Repr

/-- How a bus-master write ends (R20, R24). -/
inductive BusEnd where
  | success
  | busError
  deriving DecidableEq, Repr

/-- How an erase or a word program of the NVM array ends (R125). -/
inductive NvmEnd where
  | success
  | failure
  deriving DecidableEq, Repr

/-- What later ECC reads of a damaged key value report (R77). -/
inductive Damage where
  | correctable
  | uncorrectable
  deriving DecidableEq, Repr

/-- Which half of the STATION_BASE pair a write names (R158). -/
inductive StationHalf where
  | lo
  | hi
  deriving DecidableEq, Repr

/-- The commands, in the order of spec/opcode_table.json. The four CONTROL rows carry the word
written (R159). -/
inductive Instr where
  | coldReset
  | tamperAssert
  | tamperRelease
  | start (w : Word)
  | stop (w : Word)
  | softReset (w : Word)
  | lock (w : Word)
  | stationBaseWrite (half : StationHalf) (value : Word)
  | post (value : Word)
  | noticePendingWrite (value : Word)
  | errorFlagsWrite (value : Word)
  | ignoredRegisterWrite (offset : Nat) (width : Nat) (value : Word)
  | stationRecordReadIssue
  | stationRecordReadEnd (result : ReadEnd)
  | cellReadIssue
  | cellReadEnd (result : ReadEnd)
  | deadlineExpiry (lane : LaneNo) (take : Word)
  | dispatch
  | deriveComplete (engine : EngineNo)
  | verifyComplete (engine : EngineNo)
  | writeComplete (engine : EngineNo)
  | evidenceComplete (engine : EngineNo)
  | serviceUnwrapComplete (engine : EngineNo)
  | issuerAdd
  | issuerRemove
  | issuerLock
  | keyStage
  | keyRevoke
  | keyErase
  | setDay
  | transportReplace
  | commit
  | logRead
  | laneStop
  | laneResume
  | writeChannelIssue
  | returnFirstWriteEnd (result : BusEnd)
  | returnOwnWriteEnd (result : BusEnd)
  | noticeWriteEnd (result : BusEnd)
  | errorNoticeWriteEnd (result : BusEnd)
  | commitEraseEnd (result : NvmEnd)
  | commitWordProgramEnd (result : NvmEnd)
  | spoilProgramEnd (result : NvmEnd)
  | optionRecordReadEnd
  | startCounterReadEnd
  | startCountProgramEnd (result : NvmEnd)
  | directoryImageReadEnd
  | sliceImageReadEnd
  | kcvCheckEnd
  | zeroizeMarkProgramEnd (result : NvmEnd)
  | zeroizeSectorEraseEnd (result : NvmEnd)
  | zeroizeFinalMarkEnd (result : NvmEnd)
  | keyRamDamage (slice : SliceNo) (slot : SlotNo) (damage : Damage)
  deriving DecidableEq, Repr

end Sys2Proof
end

