-- ==== Sys2Proof/WellFormed.lean ====
section
/-! DEFINITION. Which commands are well formed: the operands are what the row's event can carry. -/

namespace Sys2Proof

/-- Bits of a CONTROL write (R159, 10.4). -/
def controlBits (w : Word) : Bool × Bool × Bool × Bool :=
  (w.getLsbD 0, w.getLsbD 1, w.getLsbD 2, w.getLsbD 3)

/-- A read that ended with contents gave all of them (R1: 576 bytes; R7: 64 bytes). -/
def ReadEnd.gives (n : Nat) : ReadEnd → Bool
  | .contents b => b.length == n
  | .busError => true

/-- A register write that the bus interface ignores: narrower than 32 bits, misaligned, beyond the
window, or to STATUS or GTIME (R157), or a CONTROL write that carries none of its four commands or
START with STOP alone (R159). R157 names no widths of narrower writes: that they are 1 and 2 bytes, and not
3, is the model's choice (DESIGN CHOICE, log entry 32); the meaning ignores any width but 4. -/
def ignoredWrite (offset width : Nat) (value : Word) : Bool :=
  (width == 1 || width == 2)
  || (width == 4 && (offset % 4 != 0 || offset ≥ 0x20 || offset == 0x04 || offset == 0x14
      || (offset == 0x00 &&
          (controlBits value == (false, false, false, false)
           || controlBits value == (true, true, false, false)))))

/-- The checks on a command's operands. -/
def Instr.wf : Instr → Bool
  | .start w => w.getLsbD 0 && !w.getLsbD 1 && !w.getLsbD 2
  | .stop w => w.getLsbD 1 && !w.getLsbD 0 && !w.getLsbD 2
  | .softReset w => w.getLsbD 2
  | .lock w => w.getLsbD 3 && !w.getLsbD 2
  | .ignoredRegisterWrite offset width value => ignoredWrite offset width value
  | .stationRecordReadEnd r => r.gives 576
  | .cellReadEnd r => r.gives 64
  | .coldReset | .tamperAssert | .tamperRelease | .stationBaseWrite _ _ | .post _
  | .noticePendingWrite _ | .errorFlagsWrite _ | .stationRecordReadIssue | .cellReadIssue
  | .deadlineExpiry _ _ | .dispatch | .deriveComplete _ | .verifyComplete _ | .writeComplete _
  | .evidenceComplete _ | .serviceUnwrapComplete _ | .issuerAdd | .issuerRemove | .issuerLock
  | .keyStage | .keyRevoke | .keyErase | .setDay | .transportReplace | .commit | .logRead
  | .laneStop | .laneResume | .writeChannelIssue | .returnFirstWriteEnd _ | .returnOwnWriteEnd _
  | .noticeWriteEnd _ | .errorNoticeWriteEnd _ | .commitEraseEnd _ | .commitWordProgramEnd _
  | .spoilProgramEnd _ | .optionRecordReadEnd | .startCounterReadEnd | .startCountProgramEnd _
  | .directoryImageReadEnd | .sliceImageReadEnd | .kcvCheckEnd | .zeroizeMarkProgramEnd _
  | .zeroizeSectorEraseEnd _ | .zeroizeFinalMarkEnd _ | .keyRamDamage _ _ _ => true

end Sys2Proof
end

