-- ==== Sys2Proof/Config.lean ====
section
/-! DEFINITION. The free values: what the manual leaves open. Each is a constant without a body, so
no proof can see its value and a claim holds whatever it is (log entry 8). They are applied to the
model's counter `State.freeIndex`, which advances at every use. -/

namespace Sys2Proof

/-- The byte that an erase cut short, or ended by a failure report, leaves at offset `i` of its
sector: "whatever state the other bytes are left in" (R125). The first argument is the use. -/
opaque Config.freeByte : Nat → Nat → Byte

/-- Which bits a word program cut short, or ended by a failure report, has left as they stood: the
program leaves "some, all or none of its programmed 0 bits in place" (R125). -/
opaque Config.freeMask : Nat → Word

end Sys2Proof
end

