-- ==== Sys2Proof/Machine/Bits.lean ====
section
/-! DEFINITION. Bytes and integers: the two byte orders of the Introduction (5.2), signed distance
(5.3) and generation order (5.4). -/

namespace Sys2Proof.Machine

/-- Byte `i` of a byte string; 0 beyond its end. -/
def byteAt (b : Bytes) (i : Nat) : Byte := b.getD i 0

/-- `n` bytes of `b` from offset `off`. -/
def bytesAt (b : Bytes) (off n : Nat) : Bytes := (List.range n).map fun i => byteAt b (off + i)

/-- A two-byte integer, least significant byte first. -/
def le16 (b : Bytes) (off : Nat) : Half := byteAt b (off + 1) ++ byteAt b off

/-- A four-byte integer, least significant byte first. -/
def le32 (b : Bytes) (off : Nat) : Word := le16 b (off + 2) ++ le16 b off

/-- An eight-byte integer, least significant byte first. -/
def le64 (b : Bytes) (off : Nat) : Addr := le32 b (off + 4) ++ le32 b off

/-- The two bytes of an integer, least significant first. -/
def leBytes16 (v : Half) : Bytes := [v.extractLsb' 0 8, v.extractLsb' 8 8]

/-- The four bytes of an integer, least significant first. -/
def leBytes32 (v : Word) : Bytes :=
  [v.extractLsb' 0 8, v.extractLsb' 8 8, v.extractLsb' 16 8, v.extractLsb' 24 8]

/-- The two bytes of an integer, most significant first (R54). -/
def beBytes16 (v : Half) : Bytes := [v.extractLsb' 8 8, v.extractLsb' 0 8]

/-- The four bytes of an integer, most significant first (R54). -/
def beBytes32 (v : Word) : Bytes :=
  [v.extractLsb' 24 8, v.extractLsb' 16 8, v.extractLsb' 8 8, v.extractLsb' 0 8]

/-- The signed distance from time `a` to time `b` (Introduction, 5.3). -/
def signedDist (a b : Word) : Int := (b - a).toInt

/-- Generation `a` is newer than generation `b` (Introduction, 5.4). -/
def newerGen (a b : Byte) : Bool := 1 ≤ (a - b).toNat && (a - b).toNat ≤ 127

/-- ceil(n / 16) of the block counts (R34). -/
def ceilDiv16 (n : Nat) : Nat := (n + 15) / 16

/-- The whole number ceil(n / 5), for blocks of 5 µs (R34). -/
def ceilDiv5 (n : Nat) : Nat := (n + 4) / 5

/-- The lanes in rising order. -/
def allLanes : List LaneNo := [0, 1, 2, 3, 4, 5, 6, 7, 8, 9, 10, 11, 12, 13, 14, 15]

/-- The slices in rising order. -/
def allSlices : List SliceNo :=
  [0, 1, 2, 3, 4, 5, 6, 7, 8, 9, 10, 11, 12, 13, 14, 15]
  ++ [16, 17, 18, 19, 20, 21, 22, 23, 24, 25, 26, 27, 28, 29, 30, 31]

/-- The slots of a slice in rising order. -/
def allSlots : List SlotNo := [0, 1, 2, 3, 4, 5, 6, 7]

end Sys2Proof.Machine
end

