-- ==== Sys2Proof/Machine/Cipher.lean ====
section
/-! DEFINITION. The block function E and its inverse D (R54: AES-128, which the manual names and
does not print; log entry 7), LKMAC (R55, R56) and tag-key derivation (R57). Blocks are byte strings
of 16 bytes; a block written here always has 16. -/

namespace Sys2Proof.Machine

/-- The 16 bytes that a function of the byte position gives. -/
def block16 (f : Nat → Byte) : Bytes := (List.range 16).map f

/-- XOR of two blocks, byte by byte. -/
def xorBlock (a b : Bytes) : Bytes := block16 fun i => byteAt a i ^^^ byteAt b i

/-- The zero block: 16 bytes 0x00 (R93). -/
def zeroBlock : Bytes := List.replicate 16 0

/-- The substitution box of the Advanced Encryption Standard, 16 rows of 16 (PRESUMED, log entry
7). -/
def sboxRows : List (List Byte) :=
  [[0x63, 0x7C, 0x77, 0x7B, 0xF2, 0x6B, 0x6F, 0xC5, 0x30, 0x01, 0x67, 0x2B, 0xFE, 0xD7, 0xAB, 0x76],
   [0xCA, 0x82, 0xC9, 0x7D, 0xFA, 0x59, 0x47, 0xF0, 0xAD, 0xD4, 0xA2, 0xAF, 0x9C, 0xA4, 0x72, 0xC0],
   [0xB7, 0xFD, 0x93, 0x26, 0x36, 0x3F, 0xF7, 0xCC, 0x34, 0xA5, 0xE5, 0xF1, 0x71, 0xD8, 0x31, 0x15],
   [0x04, 0xC7, 0x23, 0xC3, 0x18, 0x96, 0x05, 0x9A, 0x07, 0x12, 0x80, 0xE2, 0xEB, 0x27, 0xB2, 0x75],
   [0x09, 0x83, 0x2C, 0x1A, 0x1B, 0x6E, 0x5A, 0xA0, 0x52, 0x3B, 0xD6, 0xB3, 0x29, 0xE3, 0x2F, 0x84],
   [0x53, 0xD1, 0x00, 0xED, 0x20, 0xFC, 0xB1, 0x5B, 0x6A, 0xCB, 0xBE, 0x39, 0x4A, 0x4C, 0x58, 0xCF],
   [0xD0, 0xEF, 0xAA, 0xFB, 0x43, 0x4D, 0x33, 0x85, 0x45, 0xF9, 0x02, 0x7F, 0x50, 0x3C, 0x9F, 0xA8],
   [0x51, 0xA3, 0x40, 0x8F, 0x92, 0x9D, 0x38, 0xF5, 0xBC, 0xB6, 0xDA, 0x21, 0x10, 0xFF, 0xF3, 0xD2]]
  ++ [[0xCD, 0x0C, 0x13, 0xEC, 0x5F, 0x97, 0x44, 0x17, 0xC4, 0xA7, 0x7E, 0x3D, 0x64, 0x5D, 0x19, 0x73],
   [0x60, 0x81, 0x4F, 0xDC, 0x22, 0x2A, 0x90, 0x88, 0x46, 0xEE, 0xB8, 0x14, 0xDE, 0x5E, 0x0B, 0xDB],
   [0xE0, 0x32, 0x3A, 0x0A, 0x49, 0x06, 0x24, 0x5C, 0xC2, 0xD3, 0xAC, 0x62, 0x91, 0x95, 0xE4, 0x79],
   [0xE7, 0xC8, 0x37, 0x6D, 0x8D, 0xD5, 0x4E, 0xA9, 0x6C, 0x56, 0xF4, 0xEA, 0x65, 0x7A, 0xAE, 0x08],
   [0xBA, 0x78, 0x25, 0x2E, 0x1C, 0xA6, 0xB4, 0xC6, 0xE8, 0xDD, 0x74, 0x1F, 0x4B, 0xBD, 0x8B, 0x8A],
   [0x70, 0x3E, 0xB5, 0x66, 0x48, 0x03, 0xF6, 0x0E, 0x61, 0x35, 0x57, 0xB9, 0x86, 0xC1, 0x1D, 0x9E],
   [0xE1, 0xF8, 0x98, 0x11, 0x69, 0xD9, 0x8E, 0x94, 0x9B, 0x1E, 0x87, 0xE9, 0xCE, 0x55, 0x28, 0xDF],
   [0x8C, 0xA1, 0x89, 0x0D, 0xBF, 0xE6, 0x42, 0x68, 0x41, 0x99, 0x2D, 0x0F, 0xB0, 0x54, 0xBB, 0x16]]

/-- The inverse substitution box (PRESUMED, log entry 7). -/
def invSboxRows : List (List Byte) :=
  [[0x52, 0x09, 0x6A, 0xD5, 0x30, 0x36, 0xA5, 0x38, 0xBF, 0x40, 0xA3, 0x9E, 0x81, 0xF3, 0xD7, 0xFB],
   [0x7C, 0xE3, 0x39, 0x82, 0x9B, 0x2F, 0xFF, 0x87, 0x34, 0x8E, 0x43, 0x44, 0xC4, 0xDE, 0xE9, 0xCB],
   [0x54, 0x7B, 0x94, 0x32, 0xA6, 0xC2, 0x23, 0x3D, 0xEE, 0x4C, 0x95, 0x0B, 0x42, 0xFA, 0xC3, 0x4E],
   [0x08, 0x2E, 0xA1, 0x66, 0x28, 0xD9, 0x24, 0xB2, 0x76, 0x5B, 0xA2, 0x49, 0x6D, 0x8B, 0xD1, 0x25],
   [0x72, 0xF8, 0xF6, 0x64, 0x86, 0x68, 0x98, 0x16, 0xD4, 0xA4, 0x5C, 0xCC, 0x5D, 0x65, 0xB6, 0x92],
   [0x6C, 0x70, 0x48, 0x50, 0xFD, 0xED, 0xB9, 0xDA, 0x5E, 0x15, 0x46, 0x57, 0xA7, 0x8D, 0x9D, 0x84],
   [0x90, 0xD8, 0xAB, 0x00, 0x8C, 0xBC, 0xD3, 0x0A, 0xF7, 0xE4, 0x58, 0x05, 0xB8, 0xB3, 0x45, 0x06],
   [0xD0, 0x2C, 0x1E, 0x8F, 0xCA, 0x3F, 0x0F, 0x02, 0xC1, 0xAF, 0xBD, 0x03, 0x01, 0x13, 0x8A, 0x6B]]
  ++ [[0x3A, 0x91, 0x11, 0x41, 0x4F, 0x67, 0xDC, 0xEA, 0x97, 0xF2, 0xCF, 0xCE, 0xF0, 0xB4, 0xE6, 0x73],
   [0x96, 0xAC, 0x74, 0x22, 0xE7, 0xAD, 0x35, 0x85, 0xE2, 0xF9, 0x37, 0xE8, 0x1C, 0x75, 0xDF, 0x6E],
   [0x47, 0xF1, 0x1A, 0x71, 0x1D, 0x29, 0xC5, 0x89, 0x6F, 0xB7, 0x62, 0x0E, 0xAA, 0x18, 0xBE, 0x1B],
   [0xFC, 0x56, 0x3E, 0x4B, 0xC6, 0xD2, 0x79, 0x20, 0x9A, 0xDB, 0xC0, 0xFE, 0x78, 0xCD, 0x5A, 0xF4],
   [0x1F, 0xDD, 0xA8, 0x33, 0x88, 0x07, 0xC7, 0x31, 0xB1, 0x12, 0x10, 0x59, 0x27, 0x80, 0xEC, 0x5F],
   [0x60, 0x51, 0x7F, 0xA9, 0x19, 0xB5, 0x4A, 0x0D, 0x2D, 0xE5, 0x7A, 0x9F, 0x93, 0xC9, 0x9C, 0xEF],
   [0xA0, 0xE0, 0x3B, 0x4D, 0xAE, 0x2A, 0xF5, 0xB0, 0xC8, 0xEB, 0xBB, 0x3C, 0x83, 0x53, 0x99, 0x61],
   [0x17, 0x2B, 0x04, 0x7E, 0xBA, 0x77, 0xD6, 0x26, 0xE1, 0x69, 0x14, 0x63, 0x55, 0x21, 0x0C, 0x7D]]

/-- An entry of a table of 16 rows of 16. -/
def tableAt (rows : List (List Byte)) (b : Byte) : Byte :=
  (rows.getD (b.toNat / 16) []).getD (b.toNat % 16) 0

/-- The substitution of one byte. -/
def sbox (b : Byte) : Byte := tableAt sboxRows b

/-- The inverse substitution of one byte. -/
def invSbox (b : Byte) : Byte := tableAt invSboxRows b

/-- Multiplication by x in the field of the cipher. -/
def xtime (b : Byte) : Byte := (b <<< 1) ^^^ (if b.msb then 0x1B else 0x00)

/-- Multiplication by a constant of 0..15, by its bits. -/
def mulConst (c : Nat) (b : Byte) : Byte :=
  (if c.testBit 0 then b else 0) ^^^ (if c.testBit 1 then xtime b else 0)
  ^^^ (if c.testBit 2 then xtime (xtime b) else 0)
  ^^^ (if c.testBit 3 then xtime (xtime (xtime b)) else 0)

/-- The bytes of a block lie column by column; row r of column c is byte r + 4 c. -/
def shiftRows (x : Bytes) : Bytes := block16 fun i => byteAt x ((i + 4 * (i % 4)) % 16)

/-- The inverse of `shiftRows`. -/
def invShiftRows (x : Bytes) : Bytes := block16 fun i => byteAt x ((i + 12 * (i % 4)) % 16)

/-- Every byte substituted. -/
def subBytes (x : Bytes) : Bytes := block16 fun i => sbox (byteAt x i)

/-- The inverse of `subBytes`. -/
def invSubBytes (x : Bytes) : Bytes := block16 fun i => invSbox (byteAt x i)

/-- Each column multiplied by the circulant of four constants. -/
def mixWith (c0 c1 c2 c3 : Nat) (x : Bytes) : Bytes :=
  block16 fun i =>
    let col := i / 4 * 4
    mulConst c0 (byteAt x (col + i % 4)) ^^^ mulConst c1 (byteAt x (col + (i + 1) % 4))
    ^^^ mulConst c2 (byteAt x (col + (i + 2) % 4)) ^^^ mulConst c3 (byteAt x (col + (i + 3) % 4))

/-- MixColumns: 2, 3, 1, 1. -/
def mixColumns (x : Bytes) : Bytes := mixWith 2 3 1 1 x

/-- The inverse of `mixColumns`: 14, 11, 13, 9. -/
def invMixColumns (x : Bytes) : Bytes := mixWith 14 11 13 9 x

/-- The round constants of the ten rounds. -/
def roundConstants : List Byte := [0x01, 0x02, 0x04, 0x08, 0x10, 0x20, 0x40, 0x80, 0x1B, 0x36]

/-- The round key that follows a round key. -/
def nextRoundKey (k : Bytes) (rc : Byte) : Bytes :=
  let w0 := [byteAt k 0 ^^^ sbox (byteAt k 13) ^^^ rc, byteAt k 1 ^^^ sbox (byteAt k 14),
             byteAt k 2 ^^^ sbox (byteAt k 15), byteAt k 3 ^^^ sbox (byteAt k 12)]
  let w1 := (List.range 4).map fun i => byteAt k (4 + i) ^^^ byteAt w0 i
  let w2 := (List.range 4).map fun i => byteAt k (8 + i) ^^^ byteAt w1 i
  let w3 := (List.range 4).map fun i => byteAt k (12 + i) ^^^ byteAt w2 i
  w0 ++ w1 ++ w2 ++ w3

/-- The round keys that follow a key, one per round constant. -/
def expandKey : Bytes → List Byte → List Bytes
  | _, [] => []
  | k, rc :: rcs => nextRoundKey k rc :: expandKey (nextRoundKey k rc) rcs

/-- A round but the last. -/
def encRound (x rk : Bytes) : Bytes := xorBlock (mixColumns (shiftRows (subBytes x))) rk

/-- The inverse of `encRound`. -/
def decRound (x rk : Bytes) : Bytes := invSubBytes (invShiftRows (invMixColumns (xorBlock x rk)))

/-- E(K, X): AES-128 encryption of the block X under the key K (R54). -/
def blockE (key x : Bytes) : Bytes :=
  let ks := expandKey key roundConstants
  xorBlock (shiftRows (subBytes (ks.dropLast.foldl encRound (xorBlock x key)))) (ks.getLastD [])

/-- D(K, Y): AES-128 decryption (R54). -/
def blockD (key y : Bytes) : Bytes :=
  let ks := expandKey key roundConstants
  xorBlock (ks.dropLast.reverse.foldl decRound
    (invSubBytes (invShiftRows (xorBlock y (ks.getLastD []))))) key

/-! ## LKMAC -/

/-- The number of blocks of a padded message of `len` bytes: ceil((L + 1) / 16) (R55). -/
def lkmacBlocks (len : Nat) : Nat := ceilDiv16 (len + 1)

/-- The message padded by 0x80 and zeros to whole blocks (R55, step 1). -/
def lkmacPad (m : Bytes) : Bytes :=
  m ++ [0x80] ++ List.replicate (16 * lkmacBlocks m.length - (m.length + 1)) 0

/-- The chain over the blocks `i`, `i + 1`, ... of a padded message, `n` of them (R55, step 3). -/
def lkmacChain (key padded : Bytes) : Nat → Nat → Bytes → Bytes
  | 0, _, x => x
  | n + 1, i, x => lkmacChain key padded n (i + 1) (blockE key (xorBlock x (bytesAt padded (16 * i) 16)))

/-- LKMAC of a message under a key and a header block (R55). -/
def lkmac (key header message : Bytes) : Bytes :=
  (lkmacChain key (lkmacPad message) (lkmacBlocks message.length) 0 (blockE key header)).take 8

/-- The header block H (R56, 10.6). -/
def lkmacHeader (domain : Byte) (issuer : Half) (gen : Byte) (tagId : Bytes) (len : Nat)
    (lane : LaneNo) : Bytes :=
  [domain] ++ beBytes16 issuer ++ [gen] ++ bytesAt tagId 0 8 ++ beBytes16 (BitVec.ofNat 16 len)
    ++ [BitVec.ofNat 8 lane.val, 0]

/-! ## Tag keys and key check values -/

/-- The derivation input D with a sub-byte (R57, 10.6). -/
def derivationInput (issuer : Half) (gen : Byte) (tagId : Bytes) (sub : Byte) : Bytes :=
  beBytes16 issuer ++ [gen] ++ bytesAt tagId 0 8 ++ [0, 0, 0, 0, sub]

/-- K_auth (R57). -/
def deriveAuth (master : Bytes) (issuer : Half) (gen : Byte) (tagId : Bytes) : Bytes :=
  blockE master (derivationInput issuer gen tagId 0x01)

/-- K_write (R57). -/
def deriveWrite (master : Bytes) (issuer : Half) (gen : Byte) (tagId : Bytes) : Bytes :=
  blockE master (derivationInput issuer gen tagId 0x02)

/-- The KCV of a key: the first 3 bytes of E(key, zero block) (R74). -/
def keyCheck (key : Bytes) : Bytes := (blockE key zeroBlock).take 3

end Sys2Proof.Machine
end

