-- ==== Sys2Proof/Machine/State.lean ====
section
/-! DEFINITION. The state of the LK-16 as plain data: every register, queue, buffer, counter, mode
and pin that the manual gives the block, each under the name the manual uses, and `State.reset`. -/

namespace Sys2Proof.Machine

/-! ## Names of modes, states and codes -/

/-- Device states (R161). -/
inductive DeviceState where
  | loading | stopped | running | stopping | faulted | zeroizing | zeroized
  deriving DecidableEq, Repr

/-- Start results (R164). -/
inductive StartResult where
  | noStart | reading | ok | badStation | windowEmpty | noLanes | busError | notStopped | zeroized
  | abandoned
  deriving DecidableEq, Repr

/-- Lane states (R40). -/
inductive LaneState where
  | disabled | running | draining | paused | halted
  deriving DecidableEq, Repr

/-- Slot states (R74). -/
inductive SlotState where
  | empty | staged | active | retiring | expired | revoked | faulty
  deriving DecidableEq, Repr

/-- Error classes (R144). -/
inductive ErrClass where
  | correctedEcc | busError | nvmFail | uncorrectedEcc | tamper
  deriving DecidableEq, Repr

/-- Routes of an error class: NONE, NOTICE, HALT (R150). -/
inductive Route where
  | quiet | notice | halt
  deriving DecidableEq, Repr

/-- Tamper actions of the option record (R137). -/
inductive TamperAction where
  | zeroize | faultOnly
  deriving DecidableEq, Repr

/-- STATUS codes of a returned cell (10.2). -/
inductive Status where
  | ok | reduced | late | stopped | malformed | notPermitted | busy | locked | noIssuer
  | issuerExists | noSlice | noSlot | genOrder | wrongState | wrapCheck | dayBackward | nvmFail
  | noTransport
  deriving DecidableEq, Repr

/-- Verdicts of a pass request that ran (10.2). -/
inductive Verdict where
  | accept | rejectAuth | unknownIssuer | unknownKey | keyStaged | keyExpired | keyRevoked | keyFault
  deriving DecidableEq, Repr

/-- Modes in which a pass request runs (R35). -/
inductive Mode where
  | full | reduced | keyless
  deriving DecidableEq, Repr

/-- Stages of a pass request (R45). -/
inductive Stage where
  | derive | verify | write | evidence
  deriving DecidableEq, Repr

/-- The twelve service kinds (10.1). -/
inductive ServiceKind where
  | issuerAdd | issuerRemove | issuerLock | keyStage | keyRevoke | keyErase | setDay
  | transportReplace | commit | logRead | laneStop | laneResume
  deriving DecidableEq, Repr

/-- How the stored bits of a key value read under ECC (R77). -/
inductive Ecc where
  | clean | correctable | uncorrectable
  deriving DecidableEq, Repr

/-! ## Lanes, requests and returns -/

/-- A cell taken: its strip position and its 64 bytes as read (R7, R17). -/
structure TakenCell where
  pos : Nat
  bytes : Bytes
  deriving DecidableEq, Repr

/-- The lane record as accepted at START (R4, R5). -/
structure LaneConfig where
  stripBase : Addr
  stripLen : Nat
  service : Bool
  priority : Nat
  noticeEnable : Bool
  noticeAddr : Addr
  deriving DecidableEq, Repr

/-- A pass request: everything that R17 lists, with the DEADLINE in force and DEADLINE_CLAMPED
(R27). Bytes 3..35 of the principal cell are those of the last of `cells`. -/
structure PassRequest where
  lane : LaneNo
  cells : List TakenCell
  take : Word
  allowReduced : Bool
  wantEvidence : Bool
  extCount : Nat
  plen : Nat
  wlen : Nat
  gen : Byte
  issuer : Half
  tagId : Bytes
  challenge : Bytes
  tagAuth : Bytes
  entryTime : Word
  deadline : Word
  deadlineClamped : Bool
  message : Bytes
  deriving DecidableEq, Repr

/-- What the lane scanner and the lane queue hold for one lane (R6, R11, R28, R40). -/
structure Lane where
  state : LaneState
  config : LaneConfig
  cursor : Nat
  scanWanted : Bool
  pendingExt : List TakenCell
  held : Nat
  returnCount : Half
  queue : List PassRequest
  deriving DecidableEq, Repr

/-- Phase of a request of the service FIFO (R91). The head in phase `waiting` has arrived and has
not been checked yet. -/
inductive ServicePhase where
  | waiting | ready | inEngine
  deriving DecidableEq, Repr

/-- A service request; its parameters are its cell's bytes (R18). -/
structure ServiceRequest where
  lane : LaneNo
  cell : TakenCell
  take : Word
  kind : ServiceKind
  phase : ServicePhase
  deriving DecidableEq, Repr

/-- A return entry (R19): the cells not yet returned, in strip order; STATUS; bytes 36..63 of its
last cell; and whether the first write of its present cell has ended (R20). -/
structure ReturnEntry where
  lane : LaneNo
  cells : List TakenCell
  status : Status
  result : Bytes
  firstDone : Bool
  deriving DecidableEq, Repr

/-- A pending notice write of a lane, or error notice write of a class (R20, R151). -/
inductive Notice where
  | lane (l : LaneNo)
  | error (c : ErrClass)
  deriving DecidableEq, Repr

/-- The access window: its first and last 4 KB page (R2). -/
structure Window where
  basePage : BitVec 52
  limitPage : BitVec 52
  deriving DecidableEq, Repr

/-- A cell read in flight. `stale`: its lane has left RUNNING since the issue (R12). `discarded`: a
soft reset or a freeze came since (R12, R25). `refused`: outside the access window (R2). -/
structure CellRead where
  lane : LaneNo
  pos : Nat
  stale : Bool
  discarded : Bool
  refused : Bool
  deriving DecidableEq, Repr

/-- The read channel: one read at a time (R9, R163). -/
inductive ReadChannel where
  | free
  | cell (r : CellRead)
  | station (abandoned : Bool)
  deriving DecidableEq, Repr

/-- What a write on the write channel is (R20, R21, R151). -/
inductive WriteKind where
  | first | own | notice | errorNotice
  deriving DecidableEq, Repr

/-- A write in flight. `attached`: the entry it belongs to still heads the return queue (R22, R25).
`refused`: outside the access window (R2). -/
structure BusWrite where
  kind : WriteKind
  lane : Option LaneNo
  addr : Addr
  data : Bytes
  refused : Bool
  attached : Bool
  deriving DecidableEq, Repr

/-- An accepted START whose station record read waits or is in flight (R163). -/
structure StartRequest where
  addr : Addr
  issued : Bool
  deriving DecidableEq, Repr

/-! ## Key store, cache and engines -/

/-- A slot's generation, days and grace (R74). -/
structure SlotInfo where
  gen : Byte
  fromDay : Half
  toDay : Half
  grace : Byte
  deriving DecidableEq, Repr

/-- A key value in key RAM with its KCV, and how its stored bits read under ECC (R74, R77). -/
structure KeyCell where
  value : Bytes
  kcv : Bytes
  ecc : Ecc
  deriving DecidableEq, Repr

/-- A slot (R74). -/
structure Slot where
  state : SlotState
  info : Option SlotInfo
  key : Option KeyCell
  epoch : Half
  deriving DecidableEq, Repr

/-- A directory entry: the issuer code bound to a slice, its lock flag and the slice's dirty mark
(R71). The slice number is the entry's place in `State.directory` (log entry 13). -/
structure Binding where
  issuer : Half
  locked : Bool
  dirty : Bool
  deriving DecidableEq, Repr

/-- The transport key and its KCV (R88). -/
structure TransportKey where
  key : Bytes
  kcv : Bytes
  deriving DecidableEq, Repr

/-- A slot reference: slice, slot and the epoch at the dispatch (R47). -/
structure SlotRef where
  slice : SliceNo
  slot : SlotNo
  epoch : Half
  deriving DecidableEq, Repr

/-- An entry of the derived-key cache (R112); its rank is its place in the list. -/
structure CacheEntry where
  issuer : Half
  gen : Byte
  tagId : Bytes
  ref : SlotRef
  kAuth : Bytes
  kWrite : Bytes
  deriving DecidableEq, Repr

/-- The key material an engine holds (Chapter 3, 3.1). -/
inductive KeyMaterial where
  | absent
  | master (k : Bytes)
  | tag (kAuth kWrite : Bytes)
  deriving DecidableEq, Repr

/-- A pass request in an engine, with its dispatch record (Chapter 3, 3.1). `verdict` none is
*pending*. The current stage is the first of `stages`; it has `stageBlocks` blocks and ends at
`stageEnd`. -/
structure PassWork where
  request : PassRequest
  dispatchGt : Word
  mode : Mode
  verdict : Option Verdict
  ref : Option SlotRef
  keys : KeyMaterial
  evidenceKey : Option Bytes
  serial : Option Word
  newestGen : Byte
  staleGen : Bool
  cacheHit : Bool
  eccCorrected : Bool
  stages : List Stage
  stageBlocks : Nat
  stageEnd : Word
  wbAuth : Option Bytes
  evMac : Option Bytes
  deriving DecidableEq, Repr

/-- The cipher work of a service request: what the engine captured at the grant (R93). -/
structure ServiceWork where
  transportKey : Bytes
  wrapped : Bytes
  kcv : Bytes
  workEnd : Word
  deriving DecidableEq, Repr

/-- What a busy engine holds (R30). -/
inductive EngineWork where
  | pass (w : PassWork)
  | service (w : ServiceWork)
  deriving DecidableEq, Repr

/-! ## NVM controller, load and error unit -/

/-- The target of a COMMIT (R127). -/
inductive CommitTarget where
  | directory
  | slice (n : SliceNo) (issuer : Half)
  deriving DecidableEq, Repr

/-- The step of a COMMIT in progress (R131, R133); the spoiling program keeps the word that
failed, none for the erase. -/
inductive CommitStep where
  | erase
  | program (word : Nat)
  | spoil (failWord : Option Nat)
  deriving DecidableEq, Repr

/-- The fields of a COMMIT's operation record (R127). `lane` is the lane that carried the COMMIT,
kept for its reports after a soft reset has removed the cell reference (R145). -/
structure CommitOp where
  target : CommitTarget
  image : List Word
  step : CommitStep
  cell : Option TakenCell
  lane : LaneNo
  remark : Bool
  deriving DecidableEq, Repr

/-- The step of a zeroize in progress (R142). -/
inductive ZeroizeStep where
  | mark
  | erase (sector : Nat)
  | finalMark
  deriving DecidableEq, Repr

/-- The kinds of NVM operation (R127). START_COUNT keeps the word it programs, the value and the
count that the load read (R138). -/
inductive NvmOp where
  | commit (c : CommitOp)
  | startCount (word : Nat) (value : Word) (count : Nat)
  | zeroize (step : ZeroizeStep) (markFailed : Bool)
  deriving DecidableEq, Repr

/-- The operation record (R127), with the GT at which the step in progress ends. -/
structure NvmRecord where
  op : NvmOp
  startGt : Word
  stepEnd : Word
  deriving DecidableEq, Repr

/-- The steps of the load (R136). -/
inductive LoadStep where
  | optionRead
  | counterRead
  | counterProgram
  | directoryRead
  | sliceRead (n : SliceNo)
  | kcvCheck (n : SliceNo) (k : SlotNo)
  deriving DecidableEq, Repr

/-- The load in progress: its step and the GT at which the step ends. -/
structure LoadState where
  step : LoadStep
  stepEnd : Word
  deriving DecidableEq, Repr

/-- The error log record (Chapter 8, 8.3); none stands for 0xFF. -/
structure LogRecord where
  cls : ErrClass
  lane : Option LaneNo
  slice : Option SliceNo
  slot : Option SlotNo
  gt : Word
  further : Nat
  deriving DecidableEq, Repr

/-- The routes of the four routed classes (R3). -/
structure Routes where
  correctedEcc : Route
  uncorrectedEcc : Route
  nvmFail : Route
  busError : Route
  deriving DecidableEq, Repr

/-! ## The state -/

/-- The state of the LK-16. INVENTORY.md gives the rule that names each field. -/
structure State where
  /-- Commands that wait, first in, first out (log entry 4). -/
  pending : List Instr
  -- device controller
  device : DeviceState
  startResult : StartResult
  lock : Bool
  stationBaseLo : Word
  stationBaseHi : Word
  lanesClamped : Bool
  errorNoticeOff : Bool
  optionDefaulted : Bool
  directoryLost : Bool
  evidenceExhausted : Bool
  tamperFault : Bool
  startReq : Option StartRequest
  tamperPin : Bool
  tamperAction : TamperAction
  laneLimit : Nat
  engineCount : Nat
  load : Option LoadState
  -- time base
  gt : Word
  -- bus interface and return writer
  window : Option Window
  readChannel : ReadChannel
  lastServed : LaneNo
  writeChannel : Option BusWrite
  noticeList : List Notice
  noticePending : BitVec 16
  returnQueue : List ReturnEntry
  /-- Bytes of host memory that the part's completed writes have written (log entry 16). -/
  hostMem : List Host.Cell
  -- lane scanner and lane queues
  lanes : Vector Lane 16
  takeCounter : Word
  gantryId : Option Word
  -- pass engines and evidence serial
  engines : Vector (Option EngineWork) 2
  startCount : Nat
  issueCount : BitVec 20
  -- key store
  directory : Vector (Option Binding) 32
  dirDirty : Bool
  slices : Vector (Vector Slot 8) 32
  currentDay : Half
  transport : Option TransportKey
  fifo : List ServiceRequest
  -- derived-key cache, rank 1 first
  cache : List CacheEntry
  -- NVM controller and array
  nvm : List Host.Cell
  nvmOp : Option NvmRecord
  -- error unit
  errorFlags : BitVec 5
  errorLog : Option LogRecord
  routes : Routes
  errorNoticeAddr : Option Addr
  /-- Free values used so far (log entry 8). -/
  freeIndex : Nat
  deriving DecidableEq, Repr

/-- Why the block would stop with a fault: never. Every command has an effect by the manual or, when
its event cannot occur, none; errors are the block's own state (R144 to R156). No constructor: no
step raises one, which is safe. -/
inductive Fault where
  deriving DecidableEq, Repr

/-- Why a command is refused. -/
inductive Refusal where
  /-- The command has no meaning yet: raised by an arm of `exec` alone, and safe (the model stops).
  No arm raises it. -/
  | notModelled (mnemonic : String)
  deriving DecidableEq, Repr

/-! ## Reset -/

/-- The settings of a lane before a START has accepted its record (log entry 21). -/
def LaneConfig.initial : LaneConfig :=
  { stripBase := 0, stripLen := 0, service := false, priority := 0, noticeEnable := false,
    noticeAddr := 0 }

/-- A lane after a cold or soft reset (R25). -/
def Lane.initial : Lane :=
  { state := .disabled, config := .initial, cursor := 0, scanWanted := false, pendingExt := [],
    held := 0, returnCount := 0, queue := [] }

/-- An EMPTY slot with epoch 0 (R89). -/
def Slot.initial : Slot := { state := .empty, info := none, key := none, epoch := 0 }

/-- The directory of the base state: issuer 0x0000 bound to slice 0, and no other (R89). -/
def baseDirectory : Vector (Option Binding) 32 :=
  (Vector.replicate 32 none).set 0 (some { issuer := 0, locked := false, dirty := false })

/-- Every class routed NONE (R3). -/
def Routes.quiet : Routes :=
  { correctedEcc := .quiet, uncorrectedEcc := .quiet, nvmFail := .quiet, busError := .quiet }

/-- The machine right after reset: the cold reset of R169, with the load at its first step (R136).
The array is one that nothing has written (log entry 5) and TAMPER is released (log entry 6). -/
def State.reset : State :=
  { pending := []
    device := .loading, startResult := .noStart, lock := false
    stationBaseLo := 0, stationBaseHi := 0
    lanesClamped := false, errorNoticeOff := false, optionDefaulted := false
    directoryLost := false, evidenceExhausted := false, tamperFault := false
    startReq := none, tamperPin := false, tamperAction := .zeroize
    laneLimit := 1, engineCount := 1
    load := some { step := .optionRead, stepEnd := 40 }
    gt := 0
    window := none, readChannel := .free, lastServed := 15, writeChannel := none
    noticeList := [], noticePending := 0, returnQueue := [], hostMem := []
    lanes := Vector.replicate 16 .initial, takeCounter := 0, gantryId := none
    engines := Vector.replicate 2 none, startCount := 0, issueCount := 0
    directory := baseDirectory, dirDirty := false
    slices := Vector.replicate 32 (Vector.replicate 8 .initial)
    currentDay := 0, transport := none, fifo := [], cache := []
    nvm := [], nvmOp := none
    errorFlags := 0, errorLog := none, routes := .quiet, errorNoticeAddr := none
    freeIndex := 0 }

end Sys2Proof.Machine
end

