-- ==== Sys2Proof/Machine/Formats.lean ====
section
/-! DEFINITION. Code values and fixed figures of the manual (Chapters 2, 7 and 10). -/

namespace Sys2Proof.Machine

/-- STATUS codes (10.2). -/
def statusCode : Status → Byte
  | .ok => 0x00 | .reduced => 0x01 | .late => 0x02 | .stopped => 0x03 | .malformed => 0x04
  | .notPermitted => 0x05 | .busy => 0x06 | .locked => 0x07 | .noIssuer => 0x08
  | .issuerExists => 0x09 | .noSlice => 0x0A | .noSlot => 0x0B | .genOrder => 0x0C
  | .wrongState => 0x0D | .wrapCheck => 0x0E | .dayBackward => 0x0F | .nvmFail => 0x10
  | .noTransport => 0x11

/-- Verdict codes (10.2). -/
def verdictCode : Verdict → Byte
  | .accept => 0x01 | .rejectAuth => 0x02 | .unknownIssuer => 0x03 | .unknownKey => 0x04
  | .keyStaged => 0x05 | .keyExpired => 0x06 | .keyRevoked => 0x07 | .keyFault => 0x08

/-- Mode codes (10.2). -/
def modeCode : Mode → Byte
  | .full => 0x01 | .reduced => 0x02 | .keyless => 0x03

/-- Slot-state codes (10.2). -/
def slotStateCode : SlotState → Byte
  | .empty => 0x00 | .staged => 0x01 | .active => 0x02 | .retiring => 0x03 | .expired => 0x04
  | .revoked => 0x05 | .faulty => 0x06

/-- Lane-state codes (10.2). -/
def laneStateCode : LaneState → Byte
  | .disabled => 0x00 | .running => 0x01 | .draining => 0x02 | .paused => 0x03 | .halted => 0x04

/-- Severity of an error class; the class code is equal to it (R144). -/
def severity : ErrClass → Nat
  | .tamper => 5 | .uncorrectedEcc => 4 | .nvmFail => 3 | .busError => 2 | .correctedEcc => 1

/-- Bit of an error class in ERROR_FLAGS (10.4). -/
def flagBit : ErrClass → Nat
  | .correctedEcc => 0 | .busError => 1 | .nvmFail => 2 | .uncorrectedEcc => 3 | .tamper => 4

/-- Device-state codes of STATUS bits 0..2 (10.4). -/
def deviceCode : DeviceState → Nat
  | .loading => 0 | .stopped => 1 | .running => 2 | .stopping => 3 | .faulted => 4
  | .zeroizing => 5 | .zeroized => 6

/-- Start-result codes of STATUS bits 8..11 (10.4). -/
def startResultCode : StartResult → Nat
  | .noStart => 0 | .reading => 1 | .ok => 2 | .badStation => 3 | .windowEmpty => 4 | .noLanes => 5
  | .busError => 6 | .notStopped => 7 | .zeroized => 8 | .abandoned => 9

/-- A service kind by its KIND code (10.1). -/
def serviceKindOf (kind : Byte) : Option ServiceKind :=
  match kind.toNat with
  | 0x10 => some .issuerAdd | 0x11 => some .issuerRemove | 0x12 => some .issuerLock
  | 0x13 => some .keyStage | 0x14 => some .keyRevoke | 0x15 => some .keyErase
  | 0x16 => some .setDay | 0x17 => some .transportReplace | 0x18 => some .commit
  | 0x19 => some .logRead | 0x1A => some .laneStop | 0x1B => some .laneResume
  | _ => none

/-- The byte of a lane number in a log record; 0xFF for none (R144). -/
def laneByte : Option LaneNo → Byte
  | some l => BitVec.ofNat 8 l.val
  | none => 0xFF

/-- The byte of a slice number in a log record; 0xFF for none (R144). -/
def sliceByte : Option SliceNo → Byte
  | some n => BitVec.ofNat 8 n.val
  | none => 0xFF

/-- The byte of a slot number in a log record; 0xFF for none (R144). -/
def slotByte : Option SlotNo → Byte
  | some k => BitVec.ofNat 8 k.val
  | none => 0xFF

/-- The held limit of a lane (R11). -/
def heldLimit : Nat := 8

/-- The deadline horizon, 1,000,000 µs (R27). -/
def deadlineHorizon : Nat := 1000000

/-- Microseconds of one cipher block (R34). -/
def blockTime : Nat := 5

/-- Blocks of a service request's cipher work (R38). -/
def serviceBlocks : Nat := 2

/-- Microseconds of a sector read (R125). -/
def readTime : Nat := 40

/-- Microseconds of a sector erase (R125). -/
def eraseTime : Nat := 12000

/-- Microseconds of a word program (R125). -/
def programTime : Nat := 20

/-- Microseconds of a KCV check (R136). -/
def kcvTime : Nat := 5

/-- The entries of the derived-key cache (R112). -/
def cacheSize : Nat := 32

/-- The commit mark value (10.5). -/
def commitMark : Word := 0x6A3C5A96

/-- The signature and format word of a station record (10.3). -/
def stationSignature : Word := 0x4C4B0110

/-- The starts that sector 1 can count (R138). -/
def startCounterBits : Nat := 4096

/-- GT `n` µs after a time (R26). -/
def after (t : Word) (n : Nat) : Word := t + BitVec.ofNat 32 n

end Sys2Proof.Machine
end

