-- ==== Sys2Proof/Machine/Operands.lean ====
section
/-! DEFINITION. Every field of a cell and of the station record, read from its bytes (Chapter 10,
R170, R172). -/

namespace Sys2Proof.Machine

/-! ## Cells (10.1) -/

/-- OWN of 0x01 means part-owned; any other value means host-owned (R7). -/
def cellOwned (c : Bytes) : Bool := byteAt c 0 == 0x01

/-- KIND (10.1). -/
def cellKind (c : Bytes) : Byte := byteAt c 1

/-- KIND of a PASS principal cell. -/
def kindPass : Byte := 0x01

/-- KIND of an EXT cell. -/
def kindExt : Byte := 0x02

/-- The data area of an EXT cell, 56 bytes (10.1.2). -/
def extData (c : Bytes) : Bytes := bytesAt c 8 56

/-- Bytes 36..63 of a cell. -/
def cellTail (c : Bytes) : Bytes := bytesAt c 36 28

/-- EXT_COUNT, PLEN and WLEN of a PASS cell (10.1.1). -/
def passExtCount (c : Bytes) : Nat := (byteAt c 6).toNat

/-- PLEN (10.1.1). -/
def passPlen (c : Bytes) : Nat := (byteAt c 7).toNat

/-- WLEN (10.1.1). -/
def passWlen (c : Bytes) : Nat := (byteAt c 8).toNat

/-- The tests of R14 on a PASS cell that closes a chain of `n` pending extensions. -/
def passMalformed (c : Bytes) (n : Nat) : Bool :=
  passExtCount c != n || 2 < passExtCount c || 56 * passExtCount c < passPlen c + passWlen c
  || 96 < passPlen c || 32 < passWlen c

/-- The pass request that a PASS cell and its extensions carry (R17). -/
def passRequestOf (lane : LaneNo) (exts : List TakenCell) (p : TakenCell) (take : Word) :
    PassRequest :=
  { lane := lane
    cells := exts ++ [p]
    take := take
    allowReduced := (byteAt p.bytes 3).getLsbD 0
    wantEvidence := (byteAt p.bytes 3).getLsbD 1
    extCount := passExtCount p.bytes
    plen := passPlen p.bytes
    wlen := passWlen p.bytes
    gen := byteAt p.bytes 9
    issuer := le16 p.bytes 10
    tagId := bytesAt p.bytes 20 8
    challenge := bytesAt p.bytes 28 8
    tagAuth := bytesAt p.bytes 36 8
    entryTime := le32 p.bytes 12
    deadline := le32 p.bytes 16
    deadlineClamped := false
    message := exts.flatMap fun e => extData e.bytes }

/-- The tag data: the first PLEN bytes of the message data (R17). -/
def tagData (r : PassRequest) : Bytes := r.message.take r.plen

/-- The write data: the next WLEN bytes of the message data (R17). -/
def writeData (r : PassRequest) : Bytes := (r.message.drop r.plen).take r.wlen

/-! ## Service cell parameters (10.1.3) -/

/-- ISSUER. -/
def srvIssuer (c : Bytes) : Half := le16 c 6

/-- GEN. -/
def srvGen (c : Bytes) : Byte := byteAt c 8

/-- GRACE_DAYS. -/
def srvGrace (c : Bytes) : Byte := byteAt c 9

/-- FROM_DAY. -/
def srvFromDay (c : Bytes) : Half := le16 c 10

/-- TO_DAY. -/
def srvToDay (c : Bytes) : Half := le16 c 12

/-- KCV. -/
def srvKcv (c : Bytes) : Bytes := bytesAt c 14 3

/-- WRAPPED_KEY. -/
def srvWrapped (c : Bytes) : Bytes := bytesAt c 20 16

/-- DAY. -/
def srvDay (c : Bytes) : Half := le16 c 6

/-- TARGET of a COMMIT. -/
def srvTarget (c : Bytes) : Byte := byteAt c 8

/-- LANE of a lane-control request. -/
def srvLane (c : Bytes) : Nat := (byteAt c 6).toNat

/-- CURSOR of a LANE_RESUME. -/
def srvCursor (c : Bytes) : Nat := (le16 c 8).toNat

/-! ## Station record (10.3) -/

/-- A route code: bits 0..1 of its byte (R172). -/
def routeOfByte (b : Byte) : Route :=
  match (b.extractLsb' 0 2).toNat with
  | 0 => .quiet
  | 1 => .notice
  | _ => .halt

/-- The four route codes (10.3). -/
def stationRoutes (r : Bytes) : Routes :=
  { correctedEcc := routeOfByte (byteAt r 25), uncorrectedEcc := routeOfByte (byteAt r 26)
    nvmFail := routeOfByte (byteAt r 27), busError := routeOfByte (byteAt r 28) }

/-- The access window of a station record; the low 12 bits are ignored (R2). -/
def stationWindow (r : Bytes) : Window :=
  { basePage := (le64 r 8).extractLsb' 12 52, limitPage := (le64 r 16).extractLsb' 12 52 }

/-- First byte of the access window (R2). -/
def Window.first (w : Window) : Nat := w.basePage.toNat * 4096

/-- Last byte of the access window (R2). -/
def Window.last (w : Window) : Nat := w.limitPage.toNat * 4096 + 4095

/-- `n` bytes from an address on lie inside the window (R2). -/
def Window.holds (w : Window) (a n : Nat) : Bool := w.first ≤ a && a + n ≤ w.last + 1

/-- An access of `n` bytes at an address is carried by the bus interface; an empty window refuses
every access (R2). -/
def windowHolds (w : Option Window) (a n : Nat) : Bool :=
  match w with
  | none => false
  | some w => w.holds a n

/-- Lane record `n` as its raw fields, with the clamps of R5 on length and priority applied and the
class as written (10.3, R172). -/
def laneRecord (r : Bytes) (l : LaneNo) : LaneConfig :=
  let o := 64 + 32 * l.val
  { stripBase := le64 r o
    stripLen := min (le16 r (o + 8)).toNat 1024
    service := byteAt r (o + 10) == 0x01
    priority := min (byteAt r (o + 11)).toNat 7
    noticeEnable := (byteAt r (o + 12)).getLsbD 0
    noticeAddr := le64 r (o + 16) }

/-- The tests of R4 on a lane record, against the window of the same station record. -/
def laneRefused (w : Window) (c : LaneConfig) : Bool :=
  c.stripLen < 16 || c.stripBase.toNat % 64 != 0
  || !w.holds c.stripBase.toNat (64 * c.stripLen)
  || (c.noticeEnable && !w.holds c.noticeAddr.toNat 4)

/-- The lane count in force: the record's, clamped to the option lane limit (R3). -/
def laneCount (r : Bytes) (limit : Nat) : Nat := min (byteAt r 24).toNat limit

/-- The lane record of lane `l` is accepted: below the lane count and not refused (R3, R4). -/
def laneAccepted (r : Bytes) (limit : Nat) (l : LaneNo) : Bool :=
  l.val < laneCount r limit && !laneRefused (stationWindow r) (laneRecord r l)

/-- The accepted SERVICE records below lane `l` (R5). -/
def servicesBelow (r : Bytes) (limit : Nat) (l : LaneNo) : Nat :=
  allLanes.countP fun m => m.val < l.val && laneAccepted r limit m && (laneRecord r m).service

/-- The settings of an accepted lane: SERVICE is kept for the first two (R5). -/
def laneSettings (r : Bytes) (limit : Nat) (l : LaneNo) : LaneConfig :=
  let c := laneRecord r l
  { c with service := c.service && servicesBelow r limit l < 2 }

end Sys2Proof.Machine
end

