-- ==== Sys2Proof/Machine/Flags.lean ====
section
/-! DEFINITION. Flag registers and flag bytes: RFLAGS (R65), ERROR_FLAGS (R146), STATUS (R160), and
the result areas of returned cells (R19, R64, R171). -/

namespace Sys2Proof.Machine

/-- A flag as a number at its bit. -/
def flagAt (b : Bool) (bit : Nat) : Nat := if b then 2 ^ bit else 0

/-- RFLAGS (10.2). -/
def rflags (stale noEvidence hit clamped corrected : Bool) : Byte :=
  BitVec.ofNat 8 (flagAt stale 0 + flagAt noEvidence 1 + flagAt hit 2 + flagAt clamped 3
    + flagAt corrected 4)

/-- The result area of a pass request returned without running (R19). -/
def notRunArea (clamped : Bool) (done : Word) : Bytes :=
  [0xFF, 0xFF, rflags false false false clamped false, 0xFF] ++ List.replicate 8 0
    ++ List.replicate 4 0 ++ List.replicate 8 0 ++ leBytes32 done

/-- The result area of a pass request that ran (R64, R65). -/
def runArea (w : PassWork) (done : Word) : Bytes :=
  [(w.verdict.map verdictCode).getD 0xFF, modeCode w.mode,
    rflags w.staleGen w.serial.isNone w.cacheHit w.request.deadlineClamped w.eccCorrected,
    w.newestGen]
    ++ bytesAt (w.wbAuth.getD []) 0 8 ++ leBytes32 (w.serial.getD 0)
    ++ bytesAt (w.evMac.getD []) 0 8 ++ leBytes32 done

/-- Bytes put into a byte string from an offset on; bytes beyond its end are dropped. -/
def putBytes (b : Bytes) (off : Nat) (v : Bytes) : Bytes :=
  (List.range b.length).map fun i =>
    if off ≤ i ∧ i < off + v.length then byteAt v (i - off) else byteAt b i

/-- A field of a service result area: its cell offset and its bytes (10.1.4). -/
abbrev ResultField := Nat × Bytes

/-- The result area of a completed service request: 0xFF but for the fields given and DONE_TIME
(R96, R171). -/
def serviceArea (fields : List ResultField) (done : Word) : Bytes :=
  fields.foldl (fun b f => putBytes b (f.1 - 36) f.2) (List.replicate 24 0xFF) ++ leBytes32 done

/-- SLICE_NO (10.1.4). -/
def fSlice (n : SliceNo) : ResultField := (36, [BitVec.ofNat 8 n.val])

/-- SLOT_NO (10.1.4). -/
def fSlot (k : SlotNo) : ResultField := (37, [BitVec.ofNat 8 k.val])

/-- SLOT_STATE or PRIOR_STATE (10.1.4). -/
def fSlotState (s : SlotState) : ResultField := (38, [slotStateCode s])

/-- IN_USE_COUNT (10.1.4). -/
def fInUse (n : Nat) : ResultField := (39, [BitVec.ofNat 8 n])

/-- LIST_OLDEST (10.1.4). -/
def fOldest (g : Byte) : ResultField := (40, [g])

/-- LIST_NEWEST (10.1.4). -/
def fNewest (g : Byte) : ResultField := (41, [g])

/-- PRIOR_DAY (10.1.4). -/
def fPriorDay (d : Half) : ResultField := (36, leBytes16 d)

/-- NEW_DAY (10.1.4). -/
def fNewDay (d : Half) : ResultField := (38, leBytes16 d)

/-- CHANGED_COUNT (10.1.4). -/
def fChanged (n : Nat) : ResultField := (40, leBytes16 (BitVec.ofNat 16 n))

/-- LEFT_COUNT (10.1.4). -/
def fLeft (n : Nat) : ResultField := (42, leBytes16 (BitVec.ofNat 16 n))

/-- MARK_AFTER (10.1.4). -/
def fMarkAfter (set : Bool) : ResultField := (37, [if set then 1 else 0])

/-- FAIL_WORD (10.1.4). -/
def fFailWord (k : Nat) : ResultField := (38, [BitVec.ofNat 8 k])

/-- START_TIME (10.1.4). -/
def fStartTime (t : Word) : ResultField := (40, leBytes32 t)

/-- HELD_COUNT and LANE_STATE (10.1.4). -/
def fLane (held : Nat) (st : LaneState) : ResultField :=
  (36, [BitVec.ofNat 8 held, laneStateCode st])

/-- The log fields and FLAGS_NOW of a LOG_READ (R149). -/
def fLog (log : Option LogRecord) (flags : BitVec 5) : ResultField :=
  match log with
  | none => (36, [0, 0xFF, 0xFF, 0xFF] ++ leBytes32 0 ++ [0, flags.setWidth 8])
  | some r =>
    (36, [BitVec.ofNat 8 (severity r.cls), laneByte r.lane, sliceByte r.slice, slotByte r.slot]
      ++ leBytes32 r.gt ++ [BitVec.ofNat 8 r.further, flags.setWidth 8])

/-! ## STATUS -/

/-- NVM_BUSY: set while an operation record exists (R127). -/
def State.nvmBusy (s : State) : Bool := s.nvmOp.isSome

/-- STATUS as read (R160, 10.4). -/
def statusWord (s : State) : Word :=
  BitVec.ofNat 32 (deviceCode s.device + startResultCode s.startResult * 2 ^ 8
    + flagAt s.lanesClamped 16 + flagAt s.errorNoticeOff 17 + flagAt s.optionDefaulted 18
    + flagAt s.directoryLost 19 + flagAt s.evidenceExhausted 20 + flagAt s.tamperFault 21
    + flagAt s.nvmBusy 22)

end Sys2Proof.Machine
end

