-- ==== Sys2Proof/Machine/Ops.lean ====
section
/-! DEFINITION. The named operations over the state that the commands share: time, lanes, held
cells, return entries, notices, drains and halts of lanes, freezing, error reports. -/

namespace Sys2Proof.Machine

/-! ## Time (R26) -/

/-- One microsecond passes. -/
def State.tick (s : State) : State := { s with gt := s.gt + 1 }

/-- GT runs on to a time that lies ahead; a time already reached leaves it (log entry 2). -/
def State.runTo (s : State) (t : Word) : State :=
  { s with gt := if 0 < signedDist s.gt t then t else s.gt }

/-! ## Accessors -/

/-- Lane `l`. -/
def State.lane (s : State) (l : LaneNo) : Lane := s.lanes[l]

/-- Lane `l` replaced. -/
def State.setLane (s : State) (l : LaneNo) (x : Lane) : State :=
  { s with lanes := s.lanes.set l x }

/-- Engine `e`. -/
def State.engine (s : State) (e : EngineNo) : Option EngineWork := s.engines[e]

/-- Engine `e` replaced. -/
def State.setEngine (s : State) (e : EngineNo) (w : Option EngineWork) : State :=
  { s with engines := s.engines.set e w }

/-- The traffic is frozen: FAULTED, ZEROIZING or ZEROIZED (R25). -/
def State.frozen (s : State) : Bool :=
  match s.device with
  | .faulted | .zeroizing | .zeroized => true
  | .loading | .stopped | .running | .stopping => false

/-- The arbiter, the key-store controller and the return writer's cell writes act: RUNNING or
STOPPING (9.4). -/
def State.active (s : State) : Bool :=
  match s.device with
  | .running | .stopping => true
  | .loading | .stopped | .faulted | .zeroizing | .zeroized => false

/-- Both engines free. -/
def State.enginesFree (s : State) : State := { s with engines := Vector.replicate 2 none }

/-! ## Held cells, the end of a drain and of STOPPING -/

/-- No lane holds a cell. -/
def State.noneHeld (s : State) : Bool := allLanes.all fun l => (s.lane l).held == 0

/-- Entry to STOPPED: every lane becomes DISABLED (R166, R40). -/
def enterStopped (s : State) : State :=
  { s with device := .stopped, lanes := Vector.ofFn fun l => { s.lane l with state := .disabled } }

/-- In STOPPING with no cell held, the device enters STOPPED (R166). -/
def endStopping (s : State) : State :=
  if s.device = .stopping ∧ s.noneHeld = true then enterStopped s else s

/-- What follows a fall of lane `l`'s held count: a DRAINING lane that holds no cell is PAUSED
(R43), and STOPPING ends when no lane holds one (R166). A frozen device changes no lane state (R25;
log entry 12). -/
def settle (l : LaneNo) (s : State) : State :=
  if s.frozen then s
  else
    endStopping
      (if (s.lane l).state = .draining ∧ (s.lane l).held = 0 then
        s.setLane l { s.lane l with state := .paused }
      else s)

/-- `n` held cells of lane `l` are dropped or returned (R11). -/
def releaseCells (l : LaneNo) (n : Nat) (s : State) : State :=
  settle l (s.setLane l { s.lane l with held := (s.lane l).held - n })

/-! ## Return entries (R19) -/

/-- A return entry is made; for a HALTED lane it is not made and its cells are dropped (R19). -/
def makeEntry (e : ReturnEntry) (s : State) : State :=
  if (s.lane e.lane).state = .halted then releaseCells e.lane e.cells.length s
  else { s with returnQueue := s.returnQueue ++ [e] }

/-- The entry of a pass request returned without running (R19). -/
def notRunEntry (r : PassRequest) (st : Status) (now : Word) : ReturnEntry :=
  { lane := r.lane, cells := r.cells, status := st, result := notRunArea r.deadlineClamped now,
    firstDone := false }

/-- The entry of cells that are returned with bytes 36..63 of the last as read (R13, R15, R16). -/
def asReadEntry (l : LaneNo) (cells : List TakenCell) (st : Status) : ReturnEntry :=
  { lane := l, cells := cells, status := st,
    result := cellTail ((cells.getLast?.map TakenCell.bytes).getD []), firstDone := false }

/-! ## Notices -/

/-- The bit of lane `l` in NOTICE_PENDING (R21). -/
def noticeBit (l : LaneNo) : BitVec 16 := BitVec.ofNat 16 (2 ^ l.val)

/-- An entry of lane `l` has left the return queue: with notice enabled, the lane's bit is set, and
from clear a notice write is appended unless one is pending (R21). -/
def raiseLaneNotice (l : LaneNo) (s : State) : State :=
  if (s.lane l).config.noticeEnable = true ∧ s.noticePending.getLsbD l.val = false then
    { s with
      noticePending := s.noticePending ||| noticeBit l
      noticeList :=
        if Notice.lane l ∈ s.noticeList then s.noticeList else s.noticeList ++ [.lane l] }
  else s

/-! ## Reads and writes in flight -/

/-- Lane `l` leaves RUNNING: a read in flight for it becomes stale (R12). -/
def staleRead (l : LaneNo) : ReadChannel → ReadChannel
  | .cell r => .cell { r with stale := r.stale || r.lane == l }
  | .free => .free
  | .station a => .station a

/-- A read in flight will be discarded when it ends; a station record read loses its START (R25,
R163). -/
def discardRead : ReadChannel → ReadChannel
  | .cell r => .cell { r with discarded := true }
  | .free => .free
  | .station _ => .station true

/-- A return write in flight loses its entry: of lane `l`, or of any lane (R22, R25). -/
def detachWrite (l : Option LaneNo) : Option BusWrite → Option BusWrite
  | none => none
  | some w => some { w with attached := w.attached && !(l.isNone || w.lane == l) }

/-! ## Stopping a lane (R41) -/

/-- The requests of lane `l` in the service FIFO that have not begun execution (R41, R22). -/
def unstarted (l : LaneNo) (r : ServiceRequest) : Bool := r.lane == l && r.phase != .inEngine

/-- The STOPPED entries of lane `l`, in the order of R41. -/
def drainEntries (l : LaneNo) (s : State) : List ReturnEntry :=
  (if (s.lane l).pendingExt = [] then [] else [asReadEntry l (s.lane l).pendingExt .stopped])
  ++ ((s.lane l).queue.map fun r => notRunEntry r .stopped s.gt)
  ++ ((s.fifo.filter (unstarted l)).map fun r => asReadEntry l [r.cell] .stopped)

/-- Lane `l` enters DRAINING, or PAUSED when it holds no cell, with the returns of R41. -/
def drainLane (l : LaneNo) (s : State) : State :=
  { s with
    lanes := s.lanes.set l
      { s.lane l with
        state := if (s.lane l).held = 0 then .paused else .draining
        scanWanted := false, pendingExt := [], queue := [] }
    returnQueue := s.returnQueue ++ drainEntries l s
    fifo := s.fifo.filter fun r => !unstarted l r
    readChannel := staleRead l s.readChannel }

/-! ## Halting a lane (R22) -/

/-- The number of cells that a halt of lane `l` drops. -/
def haltDrops (l : LaneNo) (s : State) : Nat :=
  (s.lane l).pendingExt.length
  + ((s.lane l).queue.map fun r => r.cells.length).sum
  + (s.fifo.filter (unstarted l)).length
  + ((s.returnQueue.filter fun e => e.lane == l).map fun e => e.cells.length).sum

/-- Lane `l` moves to HALTED, with the drops of R22. -/
def haltLane (l : LaneNo) (s : State) : State :=
  settle l
    { s with
      lanes := s.lanes.set l
        { s.lane l with
          state := .halted, scanWanted := false, pendingExt := [], queue := []
          held := (s.lane l).held - haltDrops l s }
      fifo := s.fifo.filter fun r => !unstarted l r
      returnQueue := s.returnQueue.filter fun e => e.lane != l
      readChannel := staleRead l s.readChannel
      writeChannel := detachWrite (some l) s.writeChannel }

/-- A lane is halted while it is RUNNING or DRAINING (R22, R40). -/
def haltIfLive (l : LaneNo) (s : State) : State :=
  if (s.lane l).state = .running ∨ (s.lane l).state = .draining then haltLane l s else s

/-! ## Freezing: FAULTED and ZEROIZING (R25, R39) -/

/-- A START whose read is waiting or in flight is abandoned (R163). -/
def abandonStart (s : State) : State :=
  { s with
    startResult := if s.startReq.isSome then .abandoned else s.startResult
    startReq := none }

/-- The traffic freezes: both engines are aborted, a START is abandoned, and reads in flight will be
discarded (R25, R39, R69, R163). -/
def freezeTraffic (s : State) : State :=
  { abandonStart s with
    engines := Vector.replicate 2 none
    readChannel := discardRead s.readChannel }

/-- Entry to FAULTED by a HALT route (R152). -/
def enterFaulted (s : State) : State := { freezeTraffic s with device := .faulted }

/-! ## Error reports (R144 to R152) -/

/-- A report: its class, and lane, slice and slot where it has them (R144). -/
structure Report where
  cls : ErrClass
  lane : Option LaneNo
  slice : Option SliceNo
  slot : Option SlotNo
  deriving DecidableEq, Repr

/-- A BUS_ERROR report (R145). -/
def busReport (l : Option LaneNo) : Report :=
  { cls := .busError, lane := l, slice := none, slot := none }

/-- The flag of a class in ERROR_FLAGS (R146). -/
def flagMask (c : ErrClass) : BitVec 5 := BitVec.ofNat 5 (2 ^ flagBit c)

/-- The log after the arrival of a report at GT `now` (R147). -/
def logReport (r : Report) (now : Word) : Option LogRecord → LogRecord
  | none =>
    { cls := r.cls, lane := r.lane, slice := r.slice, slot := r.slot, gt := now, further := 0 }
  | some old =>
    if severity old.cls < severity r.cls then
      { cls := r.cls, lane := r.lane, slice := r.slice, slot := r.slot, gt := now, further := 0 }
    else { old with further := min (old.further + 1) 255 }

/-- The route of a class; TAMPER takes no route code (R150). -/
def routeOf (rs : Routes) : ErrClass → Route
  | .correctedEcc => rs.correctedEcc
  | .uncorrectedEcc => rs.uncorrectedEcc
  | .nvmFail => rs.nvmFail
  | .busError => rs.busError
  | .tamper => .quiet

/-- A HALT route acts in STOPPED, RUNNING and STOPPING (R152). -/
def State.haltable (s : State) : Bool :=
  match s.device with
  | .stopped | .running | .stopping => true
  | .loading | .faulted | .zeroizing | .zeroized => false

/-- The flag and the log after the arrival of a report (R146, R147). -/
def recordReport (r : Report) (s : State) : State :=
  { s with
    errorFlags := s.errorFlags ||| flagMask r.cls
    errorLog := some (logReport r s.gt s.errorLog) }

/-- An error notice write of a class is appended unless one is pending (R151). -/
def raiseErrorNotice (c : ErrClass) (s : State) : State :=
  { s with
    noticeList :=
      if Notice.error c ∈ s.noticeList then s.noticeList else s.noticeList ++ [.error c] }

/-- The arrival of a report: flag, log and route, one event (R144, R150). -/
def raiseReport (r : Report) (s : State) : State :=
  match routeOf s.routes r.cls with
  | .quiet => recordReport r s
  | .notice =>
    if s.errorFlags.getLsbD (flagBit r.cls) = true ∨ s.errorNoticeOff = true then recordReport r s
    else raiseErrorNotice r.cls (recordReport r s)
  | .halt => if s.haltable then enterFaulted (recordReport r s) else recordReport r s

/-- Reports that arrive one after the other. -/
def raiseReports : List Report → State → State
  | [], s => s
  | r :: rs, s => raiseReports rs (raiseReport r s)

end Sys2Proof.Machine
end

