-- ==== Sys2Proof/Machine/KeyStore.lean ====
section
/-! DEFINITION. The key store and the derived-key cache: directory, slots, generation order, the day
function, epochs with their purges, dirty marks, ECC reads (Chapters 4 and 6). -/

namespace Sys2Proof.Machine

/-! ## Directory (R71) -/

/-- The directory entry of slice `n`. -/
def State.binding (s : State) (n : SliceNo) : Option Binding := s.directory[n]

/-- The directory entry of slice `n` replaced. -/
def State.setBinding (s : State) (n : SliceNo) (b : Option Binding) : State :=
  { s with directory := s.directory.set n b }

/-- The slice bound to an issuer code (R71, R95). -/
def State.sliceOf (s : State) (issuer : Half) : Option SliceNo :=
  allSlices.find? fun n => (s.binding n).map Binding.issuer == some issuer

/-- The lowest-numbered free slice from 1 upward (R97). -/
def State.lowestFree (s : State) : Option SliceNo :=
  allSlices.find? fun n => n.val != 0 && (s.binding n).isNone

/-- The lock flag of slice `n`'s entry (R87). -/
def State.lockedSlice (s : State) (n : SliceNo) : Bool := ((s.binding n).map Binding.locked).getD false

/-- The dirty mark of slice `n` (R84). -/
def State.dirtySlice (s : State) (n : SliceNo) : Bool := ((s.binding n).map Binding.dirty).getD false

/-- A commit of slice `n` is in flight (R95). -/
def State.committingSlice (s : State) (n : SliceNo) : Bool :=
  match s.nvmOp with
  | some { op := .commit c, .. } =>
    match c.target with
    | .slice m _ => m == n
    | .directory => false
  | _ => false

/-- A commit of the directory is in flight (R95). -/
def State.committingDirectory (s : State) : Bool :=
  match s.nvmOp with
  | some { op := .commit c, .. } => c.target == .directory
  | _ => false

/-- The operation record with re-mark set when it commits slice `n` (R86, R131). -/
def remarkSlice (n : SliceNo) : Option NvmRecord → Option NvmRecord
  | none => none
  | some r =>
    match r.op with
    | .commit c =>
      match c.target with
      | .slice m _ => some (if m = n then { r with op := .commit { c with remark := true } } else r)
      | .directory => some r
    | .startCount _ _ _ => some r
    | .zeroize _ _ => some r

/-- Slice `n`'s dirty mark is set; a commit of the slice in flight is re-marked (R84, R86). -/
def markSliceDirty (n : SliceNo) (s : State) : State :=
  { s with
    directory := s.directory.set n ((s.binding n).map fun b => { b with dirty := true })
    nvmOp := remarkSlice n s.nvmOp }

/-! ## Slots (R74) -/

/-- Slot `k` of slice `n`. -/
def State.slot (s : State) (n : SliceNo) (k : SlotNo) : Slot := (s.slices[n])[k]

/-- Slot `k` of slice `n` replaced. -/
def State.setSlot (s : State) (n : SliceNo) (k : SlotNo) (x : Slot) : State :=
  { s with slices := s.slices.set n ((s.slices[n]).set k x) }

/-- The generation a slot carries: none in an EMPTY slot or a FAULTY slot without one (R74, R76). -/
def Slot.gen? (x : Slot) : Option Byte :=
  if x.state = .empty then none else x.info.map SlotInfo.gen

/-- The LIVE states (R74). -/
def Slot.live (x : Slot) : Bool :=
  match x.state with
  | .staged | .active | .retiring | .expired => true
  | .empty | .revoked | .faulty => false

/-- The states that serve tags (R75). -/
def Slot.serving (x : Slot) : Bool :=
  match x.state with
  | .active | .retiring => true
  | .empty | .staged | .expired | .revoked | .faulty => false

/-- A FAULTY slot without a generation (R76). -/
def Slot.faultyBlank (x : Slot) : Bool := x.state == .faulty && x.info.isNone

/-- The slot of slice `n` that carries a generation (R47). -/
def State.slotOfGen (s : State) (n : SliceNo) (g : Byte) : Option SlotNo :=
  allSlots.find? fun k => (s.slot n k).gen? == some g

/-- The lowest-numbered EMPTY slot of slice `n` (R101). -/
def State.lowestEmpty (s : State) (n : SliceNo) : Option SlotNo :=
  allSlots.find? fun k => (s.slot n k).state == .empty

/-- The lowest-numbered FAULTY slot without a generation of slice `n` (R105). -/
def State.lowestBlank (s : State) (n : SliceNo) : Option SlotNo :=
  allSlots.find? fun k => (s.slot n k).faultyBlank

/-- The slots of slice `n` that are not EMPTY (R98). -/
def State.inUse (s : State) (n : SliceNo) : Nat :=
  allSlots.countP fun k => (s.slot n k).state != .empty

/-! ## Generation order (R78) -/

/-- The generation list of slice `n`: the generations its non-EMPTY slots carry (R78, R100). -/
def State.genList (s : State) (n : SliceNo) : List Byte := allSlots.filterMap fun k => (s.slot n k).gen?

/-- The newest of a list of generations in serial order (R78). -/
def newestGen : List Byte → Option Byte
  | [] => none
  | g :: gs => some (gs.foldl (fun a b => if newerGen b a then b else a) g)

/-- The oldest of a list of generations in serial order (R78). -/
def oldestGen : List Byte → Option Byte
  | [] => none
  | g :: gs => some (gs.foldl (fun a b => if newerGen a b then b else a) g)

/-- The generations of the ACTIVE slots of slice `n` (R82). -/
def State.activeGens (s : State) (n : SliceNo) : List Byte :=
  allSlots.filterMap fun k => if (s.slot n k).state = .active then (s.slot n k).gen? else none

/-- The newest ACTIVE generation of slice `n` (R82). -/
def State.newestActive (s : State) (n : SliceNo) : Option Byte := newestGen (s.activeGens n)

/-- Pairwise distinct generations within a serial span of 127 from one of them (R78). -/
def genLaw (gs : List Byte) : Bool :=
  decide gs.Nodup && (gs.isEmpty || gs.any fun o => gs.all fun g => (g - o).toNat ≤ 127)

/-! ## Day function (R81) -/

/-- The state of a LIVE slot at day `d` (R81). -/
def dayState (d : Half) (i : SlotInfo) : SlotState :=
  if d.toNat < i.fromDay.toNat then .staged
  else if d.toNat ≤ i.toDay.toNat then .active
  else if d.toNat ≤ i.toDay.toNat + i.grace.toNat then .retiring
  else .expired

/-! ## Epochs and purges (R83, R121) -/

/-- The cache without the entries of one slot (R121). -/
def purgeCache (n : SliceNo) (k : SlotNo) (c : List CacheEntry) : List CacheEntry :=
  c.filter fun e => !(e.ref.slice == n && e.ref.slot == k)

/-- Slot `k` of slice `n` takes its new content with its epoch raised by 1, and its cache entries are
purged: one event (R83). -/
def replaceSlot (n : SliceNo) (k : SlotNo) (x : Slot) (s : State) : State :=
  { s.setSlot n k { x with epoch := (s.slot n k).epoch + 1 } with cache := purgeCache n k s.cache }

/-- An uncorrectable ECC read: the slot becomes FAULTY with its generation, days and grace, its
epoch rises, its entries are purged and its slice's dirty mark is set (R76, R77). -/
def makeFaulty (n : SliceNo) (k : SlotNo) (s : State) : State :=
  markSliceDirty n (replaceSlot n k { s.slot n k with state := .faulty, key := none } s)

/-- The outcome of an ECC read of a key value (R77). -/
inductive KeyRead where
  | clean (value : Bytes)
  | corrected (value : Bytes)
  | failed
  deriving DecidableEq, Repr

/-- An ECC read of a slot's key value. A slot that should hold one and does not (no run reaches it)
reads as failed (log entry 24). -/
def readKey (x : Slot) : KeyRead :=
  match x.key with
  | none => .failed
  | some c =>
    match c.ecc with
    | .clean => .clean c.value
    | .correctable => .corrected c.value
    | .uncorrectable => .failed

/-- The report of an ECC read that a lane's request made (R145). -/
def eccReport (c : ErrClass) (l : LaneNo) (n : SliceNo) (k : SlotNo) : Report :=
  { cls := c, lane := some l, slice := some n, slot := some k }

/-! ## Derived-key cache (Chapter 6) -/

/-- The entry's triple is the request's (R112). -/
def sameTriple (issuer : Half) (gen : Byte) (tagId : Bytes) (e : CacheEntry) : Bool :=
  e.issuer == issuer && e.gen == gen && e.tagId == tagId

/-- The probe: the entry that meets the four conditions of R114. -/
def cacheProbe (s : State) (r : PassRequest) (ref : SlotRef) : Option CacheEntry :=
  s.cache.find? fun e =>
    sameTriple r.issuer r.gen r.tagId e && e.ref == ref
    && ref.epoch == (s.slot ref.slice ref.slot).epoch && (s.slot ref.slice ref.slot).serving

/-- An entry moved to rank 1 (R113). -/
def cacheToFront (e : CacheEntry) (c : List CacheEntry) : List CacheEntry := e :: c.erase e

/-- The insertion of an accepted offer: a refresh of the triple's entry, or a new entry at rank 1
with the entry at rank 32 removed from a full cache (R119). -/
def cacheInsert (e : CacheEntry) (c : List CacheEntry) : List CacheEntry :=
  (e :: c.filter fun x => !sameTriple e.issuer e.gen e.tagId x).take cacheSize

/-- An offer: accepted when the slot's epoch still equals the captured epoch, refused otherwise
(R118). -/
def cacheOffer (e : CacheEntry) (s : State) : State :=
  if (s.slot e.ref.slice e.ref.slot).epoch = e.ref.epoch then
    { s with cache := cacheInsert e s.cache }
  else s

/-! ## Base state, ZEROIZE and FAULT_ONLY (R89, R90) -/

/-- A slot emptied, its epoch kept (R90). -/
def Slot.cleared (x : Slot) : Slot := { state := .empty, info := none, key := none, epoch := x.epoch }

/-- The key store of the ZEROIZE response (R90). -/
def zeroizeKeys (s : State) : State :=
  { s with
    slices := Vector.ofFn fun n => Vector.ofFn fun k => (s.slot n k).cleared
    directory := baseDirectory
    dirDirty := false
    currentDay := 0
    transport := none
    cache := [] }

/-- The key store of the FAULT_ONLY response: key values and KCVs cleared, the rest kept (R90,
R155). -/
def clearKeyValues (s : State) : State :=
  { s with
    slices := Vector.ofFn fun n => Vector.ofFn fun k => { s.slot n k with key := none }
    cache := [] }

end Sys2Proof.Machine
end

