-- ==== Sys2Proof/Machine/Memory.lean ====
section
/-! DEFINITION. Sparse memory: a list of (address, byte) pairs with addresses strictly rising, so
that equal memories are equal lists. The NVM array lists no byte equal to 0xFF, what an erased byte
reads as (R125); the record of host memory lists what has been written (log entry 16). -/

namespace Sys2Proof.Machine

/-- The byte listed at an address, if any. -/
def memGet : List Host.Cell → Nat → Option Byte
  | [], _ => none
  | (a, b) :: m, x => if a = x then some b else memGet m x

/-- The memory with a byte listed at an address, in order. -/
def memPut : List Host.Cell → Nat → Byte → List Host.Cell
  | [], x, v => [(x, v)]
  | (a, b) :: m, x, v =>
    if x < a then (x, v) :: (a, b) :: m
    else if x = a then (x, v) :: m
    else (a, b) :: memPut m x v

/-- The memory with nothing listed at an address. -/
def memDrop : List Host.Cell → Nat → List Host.Cell
  | [], _ => []
  | (a, b) :: m, x => if a = x then m else (a, b) :: memDrop m x

/-- Addresses strictly rising. -/
def memSorted : List Host.Cell → Bool
  | [] => true
  | [_] => true
  | (a, _) :: (a', b') :: m => a < a' && memSorted ((a', b') :: m)

/-- What an erased byte of the array reads as (R125). -/
def erasedByte : Byte := 0xFF

/-- The canonical form of the NVM array. -/
def nvmWf (m : List Host.Cell) : Bool := memSorted m && m.all fun c => c.2 != erasedByte

/-- The byte of the NVM array at an address: an unlisted address is erased. -/
def nvmGet (m : List Host.Cell) (a : Nat) : Byte := (memGet m a).getD erasedByte

/-- A byte of the NVM array set; the erased value is not listed. -/
def nvmPut (m : List Host.Cell) (a : Nat) (v : Byte) : List Host.Cell :=
  if v = erasedByte then memDrop m a else memPut m a v

/-- Bytes of the NVM array set from an address on. -/
def nvmPutBytes (m : List Host.Cell) (a : Nat) : Bytes → List Host.Cell
  | [] => m
  | v :: vs => nvmPutBytes (nvmPut m a v) (a + 1) vs

/-- Bytes of host memory recorded as written from an address on. -/
def hostPutBytes (m : List Host.Cell) (a : Nat) : Bytes → List Host.Cell
  | [] => m
  | v :: vs => hostPutBytes (memPut m a v) (a + 1) vs

end Sys2Proof.Machine
end

