-- ==== Sys2Proof/Machine/Nvm.lean ====
section
/-! DEFINITION. The NVM array: sectors, reads, erases and word programs (R124, R125), CRC-32 and the
images of the option record, the directory and the slices (R126, R129, R130, R139, R140, R173). -/

namespace Sys2Proof.Machine

/-! ## Sectors and steps of the array (R124, R125) -/

/-- Bytes of a sector. -/
def sectorBytes : Nat := 512

/-- The array address of word `k` of sector `s`. -/
def wordAddr (s k : Nat) : Nat := sectorBytes * s + 4 * k

/-- A sector read: its 512 bytes (R125). -/
def readSector (m : List Host.Cell) (s : Nat) : Bytes :=
  (List.range sectorBytes).map fun i => nvmGet m (sectorBytes * s + i)

/-- Word `k` of sector `s` as it stands. -/
def nvmWord (m : List Host.Cell) (s k : Nat) : Word :=
  nvmGet m (wordAddr s k + 3) ++ nvmGet m (wordAddr s k + 2) ++ nvmGet m (wordAddr s k + 1)
    ++ nvmGet m (wordAddr s k)

/-- Word `k` of sector `s` set. -/
def nvmSetWord (m : List Host.Cell) (s k : Nat) (v : Word) : List Host.Cell :=
  nvmPutBytes m (wordAddr s k) (leBytes32 v)

/-- A word program that ends with success: bits that are 0 in the value become 0 (R125). -/
def programWord (m : List Host.Cell) (s k : Nat) (v : Word) : List Host.Cell :=
  nvmSetWord m s k (nvmWord m s k &&& v)

/-- A word program cut short or failed: some, all or none of the programmed 0 bits are in place; the
mask is a free value (R125; log entry 8). -/
def programWordPart (m : List Host.Cell) (s k : Nat) (v mask : Word) : List Host.Cell :=
  nvmSetWord m s k (nvmWord m s k &&& (v ||| mask))

/-- The commit mark word of the image in a sector (R126). -/
def markWordOf (s : Nat) : Nat := if s = 2 then 79 else 71

/-- An erase that begins: the sector's last word is erased first, and with it the image's commit
mark word (R125, R131, R135; log entry 9). -/
def beginErase (m : List Host.Cell) (s : Nat) : List Host.Cell :=
  nvmSetWord (nvmSetWord m s 127 0xFFFFFFFF) s (markWordOf s) 0xFFFFFFFF

/-- A spoiling program of the commit mark word that is cut short or failed: some, all or none of its 0
bits are in place, and never the commit mark value, so that the sector holds an invalid image at every
later load (R133, R174; log entries 8 and 29). -/
def spoilWordPart (m : List Host.Cell) (s : Nat) (mask : Word) : List Host.Cell :=
  nvmSetWord m s (markWordOf s)
    (if nvmWord m s (markWordOf s) &&& mask = commitMark then 0
     else nvmWord m s (markWordOf s) &&& mask)

/-- An erase that ends with success: every byte becomes 0xFF (R125). -/
def eraseSector (m : List Host.Cell) (s : Nat) : List Host.Cell :=
  nvmPutBytes m (sectorBytes * s) (List.replicate sectorBytes erasedByte)

/-- An erase cut short or failed: its last word and the commit mark word are erased, and the other
bytes are free values (R125; log entries 8 and 9). -/
def eraseSectorPart (m : List Host.Cell) (s use : Nat) : List Host.Cell :=
  beginErase (nvmPutBytes m (sectorBytes * s)
    ((List.range sectorBytes).map fun i => Config.freeByte use i)) s

/-! ## CRC-32 (R126) -/

/-- One bit of the bit-reflected CRC with generator 0x04C11DB7 (reflected 0xEDB88320). -/
def crcBit (c : Word) : Word := (c >>> 1) ^^^ (if c.getLsbD 0 then 0xEDB88320 else 0)

/-- One byte of the CRC. -/
def crcByte (c : Word) (b : Byte) : Word :=
  crcBit (crcBit (crcBit (crcBit (crcBit (crcBit (crcBit (crcBit (c ^^^ b.setWidth 32))))))))

/-- CRC-32: initial value 0xFFFFFFFF and a final inversion (R126). -/
def crc32 (b : Bytes) : Word := ~~~(b.foldl crcByte 0xFFFFFFFF)

/-- The bytes of a list of words, each least significant byte first (R124). -/
def wordsToBytes (ws : List Word) : Bytes := ws.flatMap leBytes32

/-- An image: its content words, their CRC and the commit mark (R126). -/
def sealImage (content : List Word) : List Word :=
  content ++ [crc32 (wordsToBytes content), commitMark]

/-- Structural validity of an image whose CRC covers the first `n` words of a sector (R126). -/
def imageSound (b : Bytes) (n : Nat) : Bool :=
  le32 b (4 * (n + 1)) == commitMark && crc32 (b.take (4 * n)) == le32 b (4 * n)

/-! ## Option record, sector 0 (R137, 10.5) -/

/-- What load step 1 takes: lane limit, engine count, tamper action, and OPTION_DEFAULTED. -/
structure OptionRecord where
  laneLimit : Nat
  engineCount : Nat
  action : TamperAction
  defaulted : Bool
  deriving DecidableEq, Repr

/-- The option record of sector 0 is valid (R137). -/
def optionValid (b : Bytes) : Bool :=
  crc32 (b.take 4) == le32 b 4 && 1 ≤ (byteAt b 0).toNat && (byteAt b 0).toNat ≤ 16
  && 1 ≤ (byteAt b 1).toNat && (byteAt b 1).toNat ≤ 2 && (byteAt b 2 == 0x01 || byteAt b 2 == 0x02)

/-- The option record of sector 0, or its defaults (R137). -/
def takeOption (b : Bytes) : OptionRecord :=
  if optionValid b then
    { laneLimit := (byteAt b 0).toNat, engineCount := (byteAt b 1).toNat
      action := if byteAt b 2 = 0x01 then .zeroize else .faultOnly, defaulted := false }
  else { laneLimit := 1, engineCount := 1, action := .zeroize, defaulted := true }

/-- The zeroize mark word of sector 0 is set: any value but 0xFFFFFFFF (R137). -/
def zeroizeMarkSet (b : Bytes) : Bool := le32 b 8 != 0xFFFFFFFF

/-! ## Start counter, sector 1 (R138) -/

/-- The 0 bits of a word. -/
def zeroBits (w : Word) : Nat := (List.range 32).countP fun j => !w.getLsbD j

/-- The count: the 0 bits of sector 1 (R138). -/
def startsCounted (b : Bytes) : Nat := ((List.range 128).map fun k => zeroBits (le32 b (4 * k))).sum

/-- The word of the lowest-numbered 1 bit of sector 1 (R138). -/
def startWord (b : Bytes) : Nat := ((List.range 128).find? fun k => le32 b (4 * k) != 0).getD 0

/-- A word with its lowest 1 bit cleared. -/
def clearLowest (w : Word) : Word := w &&& (w - 1)

/-! ## Directory image, sector 2 (R130, R139, 10.5) -/

/-- The first 16 bytes of a key and so on as words. -/
def bytesToWords (b : Bytes) (n : Nat) : List Word := (List.range n).map fun k => le32 b (4 * k)

/-- The entry place of a binding: place `n` holds slice `n`'s (log entry 13); an unused place is 0
(R173). -/
def placeBytes (n : SliceNo) : Option Binding → Bytes
  | none => [0, 0, 0, 0]
  | some b => leBytes16 b.issuer ++ [BitVec.ofNat 8 n.val, 0xA5]

/-- The transport key's 20 bytes; zeros when it is absent (R130, R173). -/
def transportBytes : Option TransportKey → Bytes
  | none => List.replicate 20 0
  | some t => bytesAt t.key 0 16 ++ bytesAt t.kcv 0 3 ++ [0x5A]

/-- Words 0..77 of the directory image (R130). -/
def directoryContent (s : State) : List Word :=
  bytesToWords
    (leBytes16 s.currentDay ++ [0, 0] ++ (allSlices.flatMap fun n => placeBytes n (s.binding n))
      ++ transportBytes s.transport ++ List.replicate 160 0) 78

/-- The snapshot of the directory: 80 words (R130). -/
def directoryImage (s : State) : List Word := sealImage (directoryContent s)

/-- An entry place in use: issuer code and slice byte (R173). -/
def placesInUse (b : Bytes) : List (Half × Nat) :=
  (List.range 32).filterMap fun p =>
    if byteAt b (4 * (p + 1) + 3) = 0xA5 then
      some (le16 b (4 * (p + 1)), (byteAt b (4 * (p + 1) + 2)).toNat)
    else none

/-- The presence code of the transport key (10.5). -/
def presenceCode (b : Bytes) : Byte := byteAt b (4 * 37 + 3)

/-- The directory image is valid (R139, R173). -/
def directoryValid (b : Bytes) : Bool :=
  imageSound b 78
  && decide ((placesInUse b).map Prod.fst).Nodup && decide ((placesInUse b).map Prod.snd).Nodup
  && ((placesInUse b).all fun e => e.2 < 32)
  && decide (((0 : Half), 0) ∈ placesInUse b)
  && (presenceCode b == 0x5A || presenceCode b == 0x00)

/-- The bindings of a valid directory image, each with its lock flag and mark clear (R139). -/
def imageBindings (b : Bytes) : Vector (Option Binding) 32 :=
  Vector.ofFn fun n =>
    ((placesInUse b).find? fun e => e.2 == n.val).map fun e =>
      { issuer := e.1, locked := false, dirty := false }

/-- The transport key of a valid directory image (R139). -/
def imageTransport (b : Bytes) : Option TransportKey :=
  if presenceCode b = 0x5A then some { key := bytesAt b (4 * 33) 16, kcv := bytesAt b (4 * 37) 3 }
  else none

/-! ## Slice images, sectors 3..34 (R129, R140, 10.5) -/

/-- The sector of slice `n` (R124). -/
def sliceSector (n : SliceNo) : Nat := 3 + n.val

/-- The class code of a slot record (10.5). -/
def classCode (x : Slot) : Byte :=
  match x.state with
  | .empty => 0x00
  | .staged | .active | .retiring | .expired => 0x01
  | .revoked => 0x02
  | .faulty => if x.info.isSome then 0x03 else 0x04

/-- The 32 bytes of a slot record (10.5); fields a class leaves absent are 0 (R173). -/
def slotRecord (x : Slot) : Bytes :=
  let info := if x.state = .empty then none else x.info
  let key := if x.state = .empty ∨ x.state = .faulty then none else x.key
  [classCode x, (info.map SlotInfo.gen).getD 0, (info.map SlotInfo.grace).getD 0, 0]
    ++ leBytes16 ((info.map SlotInfo.fromDay).getD 0) ++ leBytes16 ((info.map SlotInfo.toDay).getD 0)
    ++ bytesAt ((key.map KeyCell.value).getD []) 0 16 ++ bytesAt ((key.map KeyCell.kcv).getD []) 0 3
    ++ List.replicate 5 0

/-- Words 0..69 of the image of slice `n` (R129). -/
def sliceContent (s : State) (n : SliceNo) (issuer : Half) : List Word :=
  bytesToWords
    (leBytes16 issuer ++ [0, 0] ++ (allSlots.flatMap fun k => slotRecord (s.slot n k))
      ++ List.replicate 20 0) 70

/-- The image of slice `n`: 72 words (R129). -/
def sliceImage (s : State) (n : SliceNo) (issuer : Half) : List Word :=
  sealImage (sliceContent s n issuer)

/-- The offset of the record of slot `k` in a slice's sector (10.5). -/
def recordOffset (k : SlotNo) : Nat := 4 + 32 * k.val

/-- The class code of slot `k`'s record. -/
def recordClass (b : Bytes) (k : SlotNo) : Nat := (byteAt b (recordOffset k)).toNat

/-- The generation, days and grace of slot `k`'s record (10.5). -/
def recordInfo (b : Bytes) (k : SlotNo) : SlotInfo :=
  { gen := byteAt b (recordOffset k + 1), grace := byteAt b (recordOffset k + 2)
    fromDay := le16 b (recordOffset k + 4), toDay := le16 b (recordOffset k + 6) }

/-- The key value and KCV of slot `k`'s record, as written into key RAM with fresh check bits
(R140). -/
def recordKey (b : Bytes) (k : SlotNo) : KeyCell :=
  { value := bytesAt b (recordOffset k + 8) 16, kcv := bytesAt b (recordOffset k + 24) 3
    ecc := .clean }

/-- The record's class carries a generation: LIVE, REVOKED or FAULTY with one (R140). -/
def recordHasGen (b : Bytes) (k : SlotNo) : Bool := 1 ≤ recordClass b k && recordClass b k ≤ 3

/-- The slice image is valid for an issuer code (R140, R173). -/
def sliceValid (b : Bytes) (issuer : Half) : Bool :=
  imageSound b 70 && le16 b 0 == issuer
  && (allSlots.all fun k => recordClass b k ≤ 4)
  && (allSlots.all fun k => !recordHasGen b k
        || ((recordInfo b k).fromDay.toNat ≤ (recordInfo b k).toDay.toNat
            && (recordInfo b k).grace.toNat ≤ 60))
  && genLaw ((allSlots.filter (recordHasGen b)).map fun k => (recordInfo b k).gen)

/-- Slot `k` as a valid slice image gives it at day `d`, with its epoch kept (R140). -/
def recordSlot (b : Bytes) (d : Half) (k : SlotNo) (epoch : Half) : Slot :=
  match recordClass b k with
  | 1 => { state := dayState d (recordInfo b k), info := some (recordInfo b k),
           key := some (recordKey b k), epoch := epoch }
  | 2 => { state := .revoked, info := some (recordInfo b k), key := some (recordKey b k),
           epoch := epoch }
  | 3 => { state := .faulty, info := some (recordInfo b k), key := none, epoch := epoch }
  | 4 => { state := .faulty, info := none, key := none, epoch := epoch }
  | _ => { state := .empty, info := none, key := none, epoch := epoch }

/-- The slots of slice `n` set from a valid image (R140). -/
def loadSlice (n : SliceNo) (b : Bytes) (s : State) : State :=
  { s with
    slices := s.slices.set n (Vector.ofFn fun k => recordSlot b s.currentDay k (s.slot n k).epoch) }

/-- All 8 slots of slice `n` FAULTY without a generation (R76, R140). -/
def blankSlice (n : SliceNo) (s : State) : State :=
  { s with
    slices := s.slices.set n (Vector.ofFn fun k =>
      { state := .faulty, info := none, key := none, epoch := (s.slot n k).epoch }) }

/-! ## The operation in flight cut short (R125, R135, R142) -/

/-- The sector of a COMMIT's target (R124). -/
def targetSector : CommitTarget → Nat
  | .directory => 2
  | .slice n _ => sliceSector n

/-- The array after the step in flight has been cut; `use` numbers the free value (R125, R135). -/
def cutArray (m : List Host.Cell) (use : Nat) : NvmOp → List Host.Cell
  | .commit c =>
    match c.step with
    | .erase => eraseSectorPart m (targetSector c.target) use
    | .program k =>
      programWordPart m (targetSector c.target) k (c.image.getD k 0) (Config.freeMask use)
    | .spoil _ => spoilWordPart m (targetSector c.target) (Config.freeMask use)
  | .startCount k v _ => programWordPart m 1 k v (Config.freeMask use)
  | .zeroize .mark _ => programWordPart m 0 2 0 (Config.freeMask use)
  | .zeroize (.erase sec) _ => eraseSectorPart m sec use
  | .zeroize .finalMark _ => programWordPart m 0 2 0 (Config.freeMask use)

/-- An operation in flight is cut at the step it has reached and its record discarded (R135,
R142). -/
def cutNvm (s : State) : State :=
  match s.nvmOp with
  | none => s
  | some r => { s with nvm := cutArray s.nvm s.freeIndex r.op, freeIndex := s.freeIndex + 1, nvmOp := none }

end Sys2Proof.Machine
end

