-- ==== Sys2Proof/Machine/Control.lean ====
section
/-! DEFINITION. Device control, the tamper responses, cold and soft reset, the register writes and
reads (Chapters 8 and 9). -/

namespace Sys2Proof.Machine

/-! ## Tamper (R153 to R155) -/

/-- The TAMPER report (R145). -/
def tamperReport : Report := { cls := .tamper, lane := none, slice := none, slot := none }

/-- The ZEROIZE response (R154): the operation in flight is cut, RAM keys and the cache are cleared,
the traffic is frozen, and the zeroize begins with its mark program (R142). -/
def zeroizeResponse (s : State) : State :=
  { zeroizeKeys (freezeTraffic (cutNvm s)) with
    load := none
    device := .zeroizing
    nvmOp := some { op := .zeroize .mark false, startGt := s.gt, stepEnd := after s.gt programTime } }

/-- The FAULT_ONLY response (R155); the NVM operation in flight goes on. -/
def faultOnlyResponse (s : State) : State :=
  { clearKeyValues (freezeTraffic s) with
    load := none
    tamperFault := true
    device := .faulted }

/-- The response of the tamper action in force (R153). -/
def tamperResponse (s : State) : State :=
  match s.tamperAction with
  | .zeroize => zeroizeResponse s
  | .faultOnly => faultOnlyResponse s

/-- A tamper assertion, by device state (R153, R154, R155). -/
def tamperAssertion (s : State) : State :=
  match s.device with
  | .zeroized => s
  | .zeroizing => raiseReport tamperReport s
  | .faulted =>
    if s.tamperFault then raiseReport tamperReport s else tamperResponse (raiseReport tamperReport s)
  | .loading | .stopped | .running | .stopping => tamperResponse (raiseReport tamperReport s)

/-- TAMPER_ASSERT: the input changes from released to asserted (R153). -/
def execTamperAssert (s : State) : Host.Outcome State Fault Refusal :=
  .next (if s.tamperPin then s else tamperAssertion { s with tamperPin := true })

/-- TAMPER_RELEASE: the next assertion will count (R153). -/
def execTamperRelease (s : State) : Host.Outcome State Fault Refusal :=
  .next { s with tamperPin := false }

/-! ## Cold reset (R169) -/

/-- The state at a cold reset: what is not RAM is kept (the array after the step in flight has been
cut, the TAMPER level, the record of host memory), and so are the model's own queue and counter. -/
def coldResetState (s : State) : State :=
  { State.reset with
    pending := s.pending
    tamperPin := s.tamperPin
    hostMem := s.hostMem
    nvm := (cutNvm s).nvm
    freeIndex := (cutNvm s).freeIndex }

/-- COLD_RESET: LOADING at step 1 of the load, with a tamper assertion when the input is asserted at
that moment (R169, R136, R153). -/
def execColdReset (s : State) : Host.Outcome State Fault Refusal :=
  .next (if s.tamperPin then tamperAssertion (coldResetState s) else coldResetState s)

/-! ## Soft reset (R167) -/

/-- The operation record without its cell reference (R127). -/
def dropCellRef : Option NvmRecord → Option NvmRecord
  | none => none
  | some r =>
    match r.op with
    | .commit c => some { r with op := .commit { c with cell := none } }
    | .startCount _ _ _ => some r
    | .zeroize _ _ => some r

/-- A soft reset is taken in STOPPED, RUNNING, STOPPING, and in FAULTED while TAMPER_FAULT is clear
(R167). -/
def State.softResettable (s : State) : Bool :=
  match s.device with
  | .stopped | .running | .stopping => true
  | .faulted => !s.tamperFault
  | .loading | .zeroizing | .zeroized => false

/-- What a soft reset clears; it leaves the device in STOPPED (R167, R25, R39). -/
def softResetState (s : State) : State :=
  { abandonStart s with
    device := .stopped
    lanes := Vector.replicate 16 .initial
    fifo := []
    returnQueue := []
    noticeList := []
    noticePending := 0
    engines := Vector.replicate 2 none
    cache := []
    takeCounter := 0
    lastServed := 15
    readChannel := discardRead s.readChannel
    writeChannel := detachWrite none s.writeChannel
    nvmOp := dropCellRef s.nvmOp }

/-- A soft reset request (R167). -/
def softResetRequest (s : State) : State := if s.softResettable then softResetState s else s

/-! ## START and STOP (R162, R165) -/

/-- The station record address (R158). -/
def State.stationBase (s : State) : Addr := s.stationBaseHi ++ s.stationBaseLo

/-- A START request (R162). A STATION_BASE that is not 4 KB aligned ends the START at once: no read
is issued (R1, step 1; log entry 15). -/
def startRequest (s : State) : State :=
  match s.device with
  | .stopped =>
    if s.startReq.isSome then s
    else if s.stationBase.toNat % 4096 = 0 then
      { s with startResult := .reading, startReq := some { addr := s.stationBase, issued := false } }
    else { s with startResult := .badStation }
  | .zeroized => { s with startResult := .zeroized }
  | .loading | .running | .stopping | .faulted | .zeroizing => { s with startResult := .notStopped }

/-- Every RUNNING lane of a list enters DRAINING or PAUSED, in the order of the list (R165, R41). A
device STOP drains the lanes "in any order" (R41): that it takes rising lane numbers, which orders the
STOPPED entries of different lanes in the return queue, is the model's choice (DESIGN CHOICE, log entry
28). -/
def drainLanes : List LaneNo → State → State
  | [], s => s
  | l :: ls, s => drainLanes ls (if (s.lane l).state = .running then drainLane l s else s)

/-- A STOP request (R165); the lanes drain in rising lane number, which R41 leaves open (DESIGN CHOICE,
log entry 28). -/
def stopRequest (s : State) : State :=
  if s.device = .running then endStopping { drainLanes allLanes s with device := .stopping } else s

/-! ## Register writes (R157, R158, R159) -/

/-- A CONTROL write (R159). -/
def controlWrite (w : Word) (s : State) : State :=
  if w.getLsbD 2 then softResetRequest s
  else
    let s := if w.getLsbD 3 then { s with lock := true } else s
    if w.getLsbD 0 && !w.getLsbD 1 then startRequest s
    else if w.getLsbD 1 && !w.getLsbD 0 then stopRequest s
    else s

/-- A write to a half of STATION_BASE: stored unless CONTROL.LOCK is set (R158). -/
def stationBaseWrite (half : StationHalf) (v : Word) (s : State) : State :=
  if s.lock then s
  else
    match half with
    | .lo => { s with stationBaseLo := v }
    | .hi => { s with stationBaseHi := v }

/-- A write to POST (R8). -/
def postWrite (v : Word) (s : State) : State :=
  if h : v.toNat < 16 then
    if s.device = .running ∧ (s.lane ⟨v.toNat, h⟩).state = .running then
      s.setLane ⟨v.toNat, h⟩ { s.lane ⟨v.toNat, h⟩ with scanWanted := true }
    else s
  else s

/-- A write to NOTICE_PENDING: a 1 clears the bit (R21). -/
def noticePendingWrite (v : Word) (s : State) : State :=
  { s with noticePending := s.noticePending &&& ~~~(v.setWidth 16) }

/-- The log after a write to ERROR_FLAGS: the clear of the logged class's flag empties it (R148). -/
def logAfterClear (flags : BitVec 5) (v : Word) : Option LogRecord → Option LogRecord
  | none => none
  | some r =>
    if flags.getLsbD (flagBit r.cls) && v.getLsbD (flagBit r.cls) then none else some r

/-- A write to ERROR_FLAGS: a 1 clears the flag (R146). -/
def errorFlagsWrite (v : Word) (s : State) : State :=
  { s with
    errorFlags := s.errorFlags &&& ~~~(v.setWidth 5)
    errorLog := logAfterClear s.errorFlags v s.errorLog }

/-- A register write of `width` bytes at an offset (R157): any width but 4 bytes is ignored. R157 gives this
for narrower writes; that a wider write is ignored too is the model's choice (DESIGN CHOICE, log entry 32). -/
def registerWrite (offset width : Nat) (v : Word) (s : State) : State :=
  if width = 4 then
    match offset with
    | 0x00 => controlWrite v s
    | 0x08 => stationBaseWrite .lo v s
    | 0x0C => stationBaseWrite .hi v s
    | 0x10 => postWrite v s
    | 0x18 => noticePendingWrite v s
    | 0x1C => errorFlagsWrite v s
    | _ => s
  else s

/-- START: a CONTROL write that carries START alone of START and STOP (R159, R162). -/
def execStart (w : Word) (s : State) : Host.Outcome State Fault Refusal := .next (controlWrite w s)

/-- STOP: a CONTROL write that carries STOP alone of START and STOP (R159, R165). -/
def execStop (w : Word) (s : State) : Host.Outcome State Fault Refusal := .next (controlWrite w s)

/-- SOFT_RESET: a CONTROL write that carries SOFT_RESET (R159, R167). -/
def execSoftReset (w : Word) (s : State) : Host.Outcome State Fault Refusal :=
  .next (controlWrite w s)

/-- LOCK: a CONTROL write that carries LOCK and not SOFT_RESET (R158, R159). -/
def execLock (w : Word) (s : State) : Host.Outcome State Fault Refusal := .next (controlWrite w s)

/-- STATION_BASE_WRITE (R158). -/
def execStationBaseWrite (half : StationHalf) (v : Word) (s : State) :
    Host.Outcome State Fault Refusal := .next (stationBaseWrite half v s)

/-- POST (R8). -/
def execPost (v : Word) (s : State) : Host.Outcome State Fault Refusal := .next (postWrite v s)

/-- NOTICE_PENDING_WRITE (R21). -/
def execNoticePendingWrite (v : Word) (s : State) : Host.Outcome State Fault Refusal :=
  .next (noticePendingWrite v s)

/-- ERROR_FLAGS_WRITE (R146). -/
def execErrorFlagsWrite (v : Word) (s : State) : Host.Outcome State Fault Refusal :=
  .next (errorFlagsWrite v s)

/-- IGNORED_REGISTER_WRITE: what a write does at its offset and width, which is nothing for the
writes the row is of (R157). -/
def execIgnoredRegisterWrite (offset width : Nat) (v : Word) (s : State) :
    Host.Outcome State Fault Refusal := .next (registerWrite offset width v s)

/-! ## Register reads (R157, R160) -/

/-- The content of the register at an offset; 0 beyond the window and at a misaligned one (R157). -/
def registerContent (offset : Nat) (s : State) : Word :=
  match offset with
  | 0x00 => BitVec.ofNat 32 (flagAt s.lock 3)
  | 0x04 => statusWord s
  | 0x08 => s.stationBaseLo
  | 0x0C => s.stationBaseHi
  | 0x14 => s.gt
  | 0x18 => s.noticePending.setWidth 32
  | 0x1C => s.errorFlags.setWidth 32
  | _ => 0

/-- A register read of `width` bytes at an offset: a 32-bit read gives the register, a narrower one
the bytes it covers (R157; log entry 20). Bytes beyond the register that holds the first byte are 0: what
a narrower read across a register boundary gives is the model's choice (DESIGN CHOICE, log entry 20), and so
is that a read wider than 32 bits, of which R157 does not speak, gives the same (DESIGN CHOICE, log entry
32). -/
def readRegister (offset width : Nat) (s : State) : Bytes :=
  if width = 4 then leBytes32 (registerContent offset s)
  else bytesAt (leBytes32 (registerContent (offset / 4 * 4) s)) (offset % 4) width

end Sys2Proof.Machine
end

