-- ==== Sys2Proof/Machine/Exchange.lean ====
section
/-! DEFINITION. The exchange area: the station record read of a START, the scan and the take, the
return writer and the write channel (Chapter 1), and the deadline tests (R27, R29). -/

namespace Sys2Proof.Machine

/-! ## Station record read (R163, R1) -/

/-- STATION_RECORD_READ_ISSUE: with no other read in flight, the read of an accepted START is issued
(R163). -/
def execStationRecordReadIssue (s : State) : Host.Outcome State Fault Refusal :=
  match s.startReq, s.readChannel with
  | some r, .free =>
    if r.issued then .next s
    else .next { s with startReq := some { r with issued := true }, readChannel := .station false }
  | _, _ => .next s

/-- The start result that the tests of R1 give for a record that was read, in their order. -/
def stationResult (b : Bytes) (limit : Nat) : StartResult :=
  if le32 b 0 ≠ stationSignature then .badStation
  else if (stationWindow b).limitPage.toNat < (stationWindow b).basePage.toNat then .windowEmpty
  else if byteAt b 24 = 0 then .noLanes
  else if allLanes.any (laneAccepted b limit) then .ok
  else .noLanes

/-- A lane as a START that ends OK sets it up (R6). -/
def startLane (b : Bytes) (limit : Nat) (l : LaneNo) : Lane :=
  if laneAccepted b limit l then
    { Lane.initial with state := .running, config := laneSettings b limit l, scanWanted := true }
  else .initial

/-- The station record applied: window, routes, notice address, gantry ID, lanes (R2 to R6). -/
def applyStation (b : Bytes) (s : State) : State :=
  { s with
    device := .running
    startResult := .ok
    window := some (stationWindow b)
    lanesClamped := s.laneLimit < (byteAt b 24).toNat
    routes := stationRoutes b
    errorNoticeAddr := some (le64 b 32)
    errorNoticeOff := !(stationWindow b).holds (le64 b 32).toNat 4
    gantryId := some (le32 b 4)
    lanes := Vector.ofFn (startLane b s.laneLimit)
    noticePending := 0
    noticeList := [] }

/-- The end of the read of a START that has not been abandoned (R1, R163). -/
def endStart (r : ReadEnd) (s : State) : State :=
  match r with
  | .busError => raiseReport (busReport none) { s with startReq := none, startResult := .busError }
  | .contents b =>
    if stationResult b s.laneLimit = .ok then applyStation b { s with startReq := none }
    else { s with startReq := none, startResult := stationResult b s.laneLimit }

/-- A discarded read ends: its bus error is reported and nothing else happens (R12, R25, R163). -/
def endDiscarded (r : ReadEnd) (l : Option LaneNo) (s : State) : State :=
  match r with
  | .busError => raiseReport (busReport l) s
  | .contents _ => s

/-- STATION_RECORD_READ_END (R1). -/
def execStationRecordReadEnd (r : ReadEnd) (s : State) : Host.Outcome State Fault Refusal :=
  match s.readChannel with
  | .station abandoned =>
    .next (if abandoned then endDiscarded r none { s with readChannel := .free }
      else endStart r { s with readChannel := .free })
  | .free => .next s
  | .cell _ => .next s

/-! ## Cell reads (R9) -/

/-- A lane wants a read (R9); that no read of its own is in flight follows from the free channel. The
held count alone decides (DESIGN CHOICE, log entry 31): R11 has the lane want a read again as soon as one held
cell is returned, and says too that all held cells are among the 8 positions before the cursor, which fails
when cells are returned out of take order. -/
def Lane.wantsRead (x : Lane) : Bool := x.state == .running && x.scanWanted && x.held < heldLimit

/-- The lanes in the order in which the channel considers them: those after the one last served,
then the others (R9). -/
def roundRobin (last : LaneNo) : List LaneNo :=
  (allLanes.filter fun l => last.val < l.val) ++ allLanes.filter fun l => l.val ≤ last.val

/-- The lane that the read channel serves next (R9). -/
def State.nextServed (s : State) : Option LaneNo :=
  (roundRobin s.lastServed).find? fun l => (s.lane l).wantsRead

/-- The host address of the cell at a strip position (R7). -/
def cellAddr (c : LaneConfig) (pos : Nat) : Nat := c.stripBase.toNat + 64 * pos

/-- CELL_READ_ISSUE: the free channel serves the next wanting lane with a read of the cell at its
cursor; an access outside the window is refused (R9, R2). -/
def execCellReadIssue (s : State) : Host.Outcome State Fault Refusal :=
  match s.device, s.readChannel, s.nextServed with
  | .running, .free, some l =>
    .next { s with
      readChannel := .cell
        { lane := l, pos := (s.lane l).cursor, stale := false, discarded := false
          refused := !windowHolds s.window (cellAddr (s.lane l).config (s.lane l).cursor) 64 }
      lastServed := l }
  | _, _, _ => .next s

/-! ## The take (R11 to R18) -/

/-- What every take does: the cell is held, the cursor advances, the take number is used (R11,
R17). -/
def takeBasics (l : LaneNo) (s : State) : State :=
  { s with
    lanes := s.lanes.set l
      { s.lane l with
        held := (s.lane l).held + 1
        cursor := ((s.lane l).cursor + 1) % (s.lane l).config.stripLen }
    takeCounter := s.takeCounter + 1 }

/-- The pending list becomes empty and an entry enters the return queue (R13 to R16). -/
def takeToQueue (l : LaneNo) (e : ReturnEntry) (s : State) : State :=
  makeEntry e (s.setLane l { s.lane l with pendingExt := [] })

/-- An EXT cell taken: appended, or with two pending already returned MALFORMED with them (R13). -/
def takeExt (l : LaneNo) (c : TakenCell) (s : State) : State :=
  if (s.lane l).pendingExt.length < 2 then
    s.setLane l { s.lane l with pendingExt := (s.lane l).pendingExt ++ [c] }
  else takeToQueue l (asReadEntry l ((s.lane l).pendingExt ++ [c]) .malformed) s

/-- The request in force at the queue: DEADLINE clamped to the horizon (R27). -/
def clampDeadline (now : Word) (r : PassRequest) : PassRequest :=
  if (deadlineHorizon : Int) < signedDist now r.deadline then
    { r with deadline := after now deadlineHorizon, deadlineClamped := true }
  else r

/-- The test at take: LATE, or queued with its deadline clamped to the horizon (R27). -/
def queueRequest (r : PassRequest) (s : State) : State :=
  if signedDist s.gt r.deadline ≤ 0 then makeEntry (notRunEntry r .late s.gt) s
  else
    s.setLane r.lane
      { s.lane r.lane with queue := (s.lane r.lane).queue ++ [clampDeadline s.gt r] }

/-- A PASS cell taken: it closes its chain (R14, R17). -/
def takePass (l : LaneNo) (c : TakenCell) (take : Word) (s : State) : State :=
  let r := passRequestOf l (s.lane l).pendingExt c take
  if passMalformed c.bytes (s.lane l).pendingExt.length then
    takeToQueue l (notRunEntry r .malformed s.gt) s
  else queueRequest r (s.setLane l { s.lane l with pendingExt := [] })

/-- A service cell taken (R15, R18). -/
def takeService (l : LaneNo) (c : TakenCell) (kind : ServiceKind) (take : Word) (s : State) : State :=
  if (s.lane l).pendingExt ≠ [] then
    takeToQueue l (asReadEntry l ((s.lane l).pendingExt ++ [c]) .malformed) s
  else if (s.lane l).config.service then
    { s with
      fifo := s.fifo ++ [{ lane := l, cell := c, take := take, kind := kind, phase := .waiting }] }
  else takeToQueue l (asReadEntry l [c] .notPermitted) s

/-- A cell of unknown KIND taken (R16). -/
def takeUnknown (l : LaneNo) (c : TakenCell) (s : State) : State :=
  takeToQueue l (asReadEntry l ((s.lane l).pendingExt ++ [c]) .malformed) s

/-- A part-owned cell is taken and handled by its KIND (R11, R13 to R16). -/
def takeCell (l : LaneNo) (c : TakenCell) (s : State) : State :=
  if cellKind c.bytes = kindPass then takePass l c s.takeCounter (takeBasics l s)
  else if cellKind c.bytes = kindExt then takeExt l c (takeBasics l s)
  else
    match serviceKindOf (cellKind c.bytes) with
    | some kind => takeService l c kind s.takeCounter (takeBasics l s)
    | none => takeUnknown l c (takeBasics l s)

/-- A read of a RUNNING lane ended with contents: the scan stops at a host-owned cell, and a
part-owned cell is taken (R10, R11). -/
def scanCell (l : LaneNo) (pos : Nat) (b : Bytes) (s : State) : State :=
  if cellOwned b then takeCell l { pos := pos, bytes := b } s
  else s.setLane l { s.lane l with scanWanted := false }

/-- How a cell read ends, given that a refused access ends as a bus error (R2). -/
def readOutcome (refused : Bool) (r : ReadEnd) : ReadEnd := if refused then .busError else r

/-- A cell read of lane `x.lane` ends (R10 to R12, R22, R25). -/
def endCellRead (x : CellRead) (r : ReadEnd) (s : State) : State :=
  if x.discarded || s.frozen then endDiscarded r (some x.lane) s
  else if x.stale || (s.lane x.lane).state != .running then
    match r with
    | .contents _ => s
    | .busError =>
      raiseReport (busReport (some x.lane))
        (if (s.lane x.lane).state = .draining then haltLane x.lane s else s)
  else
    match r with
    | .contents b => scanCell x.lane x.pos b s
    | .busError => raiseReport (busReport (some x.lane)) (haltLane x.lane s)

/-- CELL_READ_END (R11). -/
def execCellReadEnd (r : ReadEnd) (s : State) : Host.Outcome State Fault Refusal :=
  match s.readChannel with
  | .cell x => .next (endCellRead x (readOutcome x.refused r) { s with readChannel := .free })
  | .free => .next s
  | .station _ => .next s

/-! ## Deadline expiry (R29) -/

/-- DEADLINE_EXPIRY: when GT reaches the DEADLINE of a request still queued, the request is returned
LATE; one that has left the queue, or a frozen device, is not touched (R29, R28). -/
def execDeadlineExpiry (l : LaneNo) (take : Word) (s : State) : Host.Outcome State Fault Refusal :=
  if s.frozen then .next s
  else
    match (s.lane l).queue.find? fun r => r.take == take with
    | none => .next s
    | some r =>
      let t := s.runTo r.deadline
      .next (makeEntry (notRunEntry r .late t.gt)
        (t.setLane l { t.lane l with queue := (t.lane l).queue.erase r }))

/-! ## Write channel (R20, R21, R151) -/

/-- The first write of a cell: bytes 2..63, with STATUS, bytes 3..35 as read, and bytes 36..63 as
read or, in the entry's last cell, its result area (R20, R170). -/
def firstWriteData (e : ReturnEntry) (c : TakenCell) : Bytes :=
  [statusCode e.status] ++ bytesAt c.bytes 3 33
    ++ (if e.cells.length = 1 then e.result else cellTail c.bytes)

/-- The notice word of a lane: its number and its return count (R21). -/
def laneNoticeWord (l : LaneNo) (count : Half) : Bytes := [BitVec.ofNat 8 l.val, 0] ++ leBytes16 count

/-- The error notice word of a class (R151). -/
def errorNoticeWord (c : ErrClass) : Bytes := [BitVec.ofNat 8 (severity c), 0, 0, 0]

/-- A write put on the write channel; outside the window it is refused (R2, R20). -/
def issueWrite (kind : WriteKind) (lane : Option LaneNo) (addr : Nat) (data : Bytes)
    (attached : Bool) (s : State) : State :=
  { s with
    writeChannel := some
      { kind := kind, lane := lane, addr := BitVec.ofNat 64 addr, data := data
        refused := !windowHolds s.window addr data.length, attached := attached } }

/-- A notice write taken from the notice list (R21, R151). -/
def issueNotice (n : Notice) (s : State) : State :=
  match n with
  | .lane l =>
    issueWrite .notice (some l) (s.lane l).config.noticeAddr.toNat
      (laneNoticeWord l (s.lane l).returnCount) false s
  | .error c =>
    issueWrite .errorNotice none ((s.errorNoticeAddr.getD 0).toNat) (errorNoticeWord c) false s

/-- The next cell write of the return writer (R20). -/
def issueCellWrite (e : ReturnEntry) (c : TakenCell) (s : State) : State :=
  if e.firstDone then
    issueWrite .own (some e.lane) (cellAddr (s.lane e.lane).config c.pos) [0x00] true s
  else
    issueWrite .first (some e.lane) (cellAddr (s.lane e.lane).config c.pos + 2)
      (firstWriteData e c) true s

/-- The write channel sends notice writes: STOPPED, RUNNING, STOPPING (9.4). -/
def State.sendsNotices (s : State) : Bool :=
  match s.device with
  | .stopped | .running | .stopping => true
  | .loading | .faulted | .zeroizing | .zeroized => false

/-- WRITE_CHANNEL_ISSUE: the free channel takes the oldest pending notice write, or otherwise the
next cell write of the oldest return entry (R20). -/
def execWriteChannelIssue (s : State) : Host.Outcome State Fault Refusal :=
  if s.writeChannel.isSome || !s.sendsNotices then .next s
  else
    match s.noticeList with
    | n :: rest => .next (issueNotice n { s with noticeList := rest })
    | [] =>
      if s.active then
        match s.returnQueue with
        | e :: _ =>
          match e.cells with
          | c :: _ => .next (issueCellWrite e c s)
          | [] => .next s
        | [] => .next s
      else .next s

/-- How a write ends, given that a refused access ends as a bus error (R2). -/
def writeOutcome (refused : Bool) (r : BusEnd) : BusEnd := if refused then .busError else r

/-- The write on the channel ends with success: the channel is free and host memory holds the data
(log entry 16). -/
def landWrite (w : BusWrite) (s : State) : State :=
  { s with writeChannel := none, hostMem := hostPutBytes s.hostMem w.addr.toNat w.data }

/-- A return write that ends with a bus error halts its lane, with the entry being written dropped
among its entries, and is reported (R23). One whose entry is gone, or in a frozen device, is
reported only (R22, R25). -/
def failReturnWrite (w : BusWrite) (s : State) : State :=
  raiseReport (busReport w.lane)
    (match w.lane with
     | some l => if w.attached && !s.frozen then haltIfLive l s else s
     | none => s)

/-- The first write of the oldest entry's present cell has ended (R20). -/
def markFirstDone (s : State) : State :=
  { s with
    returnQueue :=
      match s.returnQueue with
      | [] => []
      | e :: rest => { e with firstDone := true } :: rest }

/-- RETURN_FIRST_WRITE_END (R20, R23). -/
def execReturnFirstWriteEnd (r : BusEnd) (s : State) : Host.Outcome State Fault Refusal :=
  match s.writeChannel with
  | some w =>
    if w.kind = .first then
      match writeOutcome w.refused r with
      | .success => .next (if w.attached then markFirstDone (landWrite w s) else landWrite w s)
      | .busError => .next (failReturnWrite w { s with writeChannel := none })
    else .next s
  | none => .next s

/-- The present cell of the oldest entry is returned: the lane's held count falls; with the entry's
last cell the entry leaves the queue, the lane's return count rises and its notice is raised (R20,
R21). -/
def returnCell (s : State) : State :=
  match s.returnQueue with
  | [] => s
  | e :: rest =>
    match e.cells with
    | [] => s
    | [_] =>
      releaseCells e.lane 1
        (raiseLaneNotice e.lane
          { s with
            returnQueue := rest
            lanes := s.lanes.set e.lane
              { s.lane e.lane with returnCount := (s.lane e.lane).returnCount + 1 } })
    | _ :: c :: cs =>
      releaseCells e.lane 1
        { s with returnQueue := { e with cells := c :: cs, firstDone := false } :: rest }

/-- RETURN_OWN_WRITE_END (R20, R23). -/
def execReturnOwnWriteEnd (r : BusEnd) (s : State) : Host.Outcome State Fault Refusal :=
  match s.writeChannel with
  | some w =>
    if w.kind = .own then
      match writeOutcome w.refused r with
      | .success => .next (if w.attached then returnCell (landWrite w s) else landWrite w s)
      | .busError => .next (failReturnWrite w { s with writeChannel := none })
    else .next s
  | none => .next s

/-- A notice write of a lane or an error notice write ends: a bus error is reported and halts no lane
(R24). -/
def endNoticeWrite (w : BusWrite) (r : BusEnd) (s : State) : State :=
  match writeOutcome w.refused r with
  | .success => landWrite w s
  | .busError => raiseReport (busReport w.lane) { s with writeChannel := none }

/-- NOTICE_WRITE_END (R24). -/
def execNoticeWriteEnd (r : BusEnd) (s : State) : Host.Outcome State Fault Refusal :=
  match s.writeChannel with
  | some w => if w.kind = .notice then .next (endNoticeWrite w r s) else .next s
  | none => .next s

/-- ERROR_NOTICE_WRITE_END (R151). -/
def execErrorNoticeWriteEnd (r : BusEnd) (s : State) : Host.Outcome State Fault Refusal :=
  match s.writeChannel with
  | some w => if w.kind = .errorNotice then .next (endNoticeWrite w r s) else .next s
  | none => .next s

end Sys2Proof.Machine
end

