-- ==== Sys2Proof/Machine/Arbiter.lean ====
section
/-! DEFINITION. The dispatch arbiter and the dispatch decision (R31 to R36, R45 to R53). -/

namespace Sys2Proof.Machine

/-! ## The choice (R31, R32) -/

/-- The engine that the arbiter hands out: engine 0 first, and engine 1 only when the engine count
is 2 (R30, R31). -/
def State.freeEngine (s : State) : Option EngineNo :=
  if (s.engine 0).isNone then some 0
  else if s.engineCount = 2 ∧ (s.engine 1).isNone = true then some 1
  else none

/-- The queued pass requests of all lanes (R32). -/
def State.queued (s : State) : List PassRequest := allLanes.flatMap fun l => (s.lane l).queue

/-- Request `a` is chosen before request `b` at GT `now`: nearer deadline, then lower priority value,
then lower lane number, then earlier take (R32). -/
def ranksBefore (s : State) (a b : PassRequest) : Bool :=
  let da := signedDist s.gt a.deadline
  let db := signedDist s.gt b.deadline
  let pa := (s.lane a.lane).config.priority
  let pb := (s.lane b.lane).config.priority
  da < db || (da == db && (pa < pb || (pa == pb && (a.lane.val < b.lane.val
    || (a.lane == b.lane && 0 < signedDist a.take b.take)))))

/-- The best of a list of requests, keeping the earlier of two that tie (R32). -/
def bestRequest (s : State) : PassRequest → List PassRequest → PassRequest
  | best, [] => best
  | best, r :: rs => bestRequest s (if ranksBefore s r best then r else best) rs

/-- The pass request that the arbiter chooses (R32). -/
def State.chosen (s : State) : Option PassRequest :=
  match s.queued with
  | [] => none
  | r :: rs => some (bestRequest s r rs)

/-! ## Costs (R34) -/

/-- VERIFY blocks (R34). -/
def verifyBlocks (plen : Nat) : Nat := 1 + ceilDiv16 (8 + plen + 1)

/-- WRITE blocks (R34). -/
def writeBlocks (wlen : Nat) : Nat := 1 + ceilDiv16 (8 + wlen + 1)

/-- DERIVE blocks (R34). -/
def deriveBlocks (hit : Bool) : Nat := if hit then 0 else 2

/-- EVIDENCE blocks (R34). -/
def evidenceBlocks (available : Bool) : Nat := if available then 3 else 0

/-- The blocks of one stage of a request that runs it (R34). -/
def stageBlocksOf (r : PassRequest) : Stage → Nat
  | .derive => 2
  | .verify => verifyBlocks r.plen
  | .write => writeBlocks r.wlen
  | .evidence => 3

/-- Full cost in blocks (R34). -/
def fullCost (r : PassRequest) (bearing hit available : Bool) : Nat :=
  if bearing then
    deriveBlocks hit + verifyBlocks r.plen + writeBlocks r.wlen + evidenceBlocks available
  else evidenceBlocks available

/-- Reduced cost in blocks (R34). -/
def reducedCost (r : PassRequest) (bearing hit available : Bool) : Nat :=
  if bearing then deriveBlocks hit + verifyBlocks r.plen + evidenceBlocks available
  else evidenceBlocks available

/-- The mode that the slack admits, or none: LATE at dispatch (R35). -/
def chooseMode (r : PassRequest) (slack : Int) (bearing hit available : Bool) : Option Mode :=
  if (blockTime * fullCost r bearing hit available : Nat) ≤ slack then
    some (if bearing then .full else .keyless)
  else if r.allowReduced && bearing
      && decide (((blockTime * reducedCost r bearing hit available : Nat) : Int) ≤ slack) then
    some .reduced
  else none

/-- The stage list (R45). -/
def stageList (m : Mode) (hit available : Bool) : List Stage :=
  (match m with
   | .full => (if hit then [] else [.derive]) ++ [.verify, .write]
   | .reduced => (if hit then [] else [.derive]) ++ [.verify]
   | .keyless => [])
  ++ (if available then [.evidence] else [])

/-! ## Lookup and key (R46 to R49) -/

/-- The lookup outcome: a no-key verdict, or a key-bearing class with its slot reference (R47). -/
inductive Lookup where
  | noKey (v : Verdict)
  | bearing (ref : SlotRef)
  deriving DecidableEq, Repr

/-- The generation lookup in slice `n` (R47). -/
def genLookup (s : State) (n : SliceNo) (g : Byte) : Lookup :=
  match s.slotOfGen n g with
  | none => if (s.lowestBlank n).isSome then .noKey .keyFault else .noKey .unknownKey
  | some k =>
    match (s.slot n k).state with
    | .staged => .noKey .keyStaged
    | .expired => .noKey .keyExpired
    | .revoked => .noKey .keyRevoked
    | .faulty => .noKey .keyFault
    | .active | .retiring => .bearing { slice := n, slot := k, epoch := (s.slot n k).epoch }
    | .empty => .noKey .unknownKey

/-- The slice of a request's issuer; 0x0000 is treated as not found (R46). -/
def State.issuerSlice (s : State) (issuer : Half) : Option SliceNo :=
  if issuer = 0 then none else s.sliceOf issuer

/-- The issuer lookup and the generation lookup (R46, R47). -/
def lookup (s : State) (r : PassRequest) : Lookup :=
  match s.issuerSlice r.issuer with
  | none => .noKey .unknownIssuer
  | some n => genLookup s n r.gen

/-- What steps 1 to 4 of the decision give, with the state they leave (R33). `ref` none is the
no-key class. -/
structure KeyOutcome where
  state : State
  verdict : Option Verdict
  ref : Option SlotRef
  keys : KeyMaterial
  hit : Bool
  corrected : Bool
  reports : List Report
  deriving DecidableEq, Repr

/-- Step 4: the master-key read after a miss (R48). -/
def masterRead (s : State) (r : PassRequest) (ref : SlotRef) : KeyOutcome :=
  match readKey (s.slot ref.slice ref.slot) with
  | .clean v =>
    { state := s, verdict := none, ref := some ref, keys := .master v, hit := false
      corrected := false, reports := [] }
  | .corrected v =>
    { state := s, verdict := none, ref := some ref, keys := .master v, hit := false
      corrected := true, reports := [eccReport .correctedEcc r.lane ref.slice ref.slot] }
  | .failed =>
    { state := makeFaulty ref.slice ref.slot s, verdict := some .keyFault, ref := none
      keys := .absent, hit := false, corrected := false
      reports := [eccReport .uncorrectedEcc r.lane ref.slice ref.slot] }

/-- Steps 1 to 4: lookup, probe and master-key read (R33). -/
def findKey (s : State) (r : PassRequest) : KeyOutcome :=
  match lookup s r with
  | .noKey v =>
    { state := s, verdict := some v, ref := none, keys := .absent, hit := false
      corrected := false, reports := [] }
  | .bearing ref =>
    match cacheProbe s r ref with
    | some e =>
      { state := { s with cache := cacheToFront e s.cache }, verdict := none, ref := some ref
        keys := .tag e.kAuth e.kWrite, hit := true, corrected := false, reports := [] }
    | none => masterRead s r ref

/-- NEWEST_GEN (R49). -/
def newestGenOf (s : State) (r : PassRequest) : Byte :=
  match s.issuerSlice r.issuer with
  | none => 0xFF
  | some n => (s.newestActive n).getD 0xFF

/-- STALE_GEN of a key-bearing request (R49). -/
def staleGenOf (s : State) (r : PassRequest) : Bool :=
  match s.issuerSlice r.issuer with
  | none => false
  | some n => s.newestActive n != some r.gen

/-! ## Evidence (R50, R51) -/

/-- What step 5 gives, with the state it leaves (R50). -/
structure EvidenceOutcome where
  state : State
  key : Option Bytes
  corrected : Bool
  reports : List Report
  deriving DecidableEq, Repr

/-- The slot of slice 0 that is ACTIVE with the newest generation (R50). -/
def State.evidenceSlot (s : State) : Option SlotNo :=
  match s.newestActive 0 with
  | none => none
  | some g => allSlots.find? fun k => (s.slot 0 k).state == .active && (s.slot 0 k).gen? == some g

/-- The reads of slice 0's ACTIVE slots, newest first, until one reads without an uncorrectable
error; a slice has 8 slots, so `fuel` 8 reads them all (R50, test 3). -/
def readEvidence (lane : LaneNo) : Nat → State → EvidenceOutcome
  | 0, s => { state := s, key := none, corrected := false, reports := [] }
  | fuel + 1, s =>
    match s.evidenceSlot with
    | none => { state := s, key := none, corrected := false, reports := [] }
    | some k =>
      match readKey (s.slot 0 k) with
      | .clean v => { state := s, key := some v, corrected := false, reports := [] }
      | .corrected v =>
        { state := s, key := some v, corrected := true
          reports := [eccReport .correctedEcc lane 0 k] }
      | .failed =>
        let o := readEvidence lane fuel (makeFaulty 0 k s)
        { o with reports := eccReport .uncorrectedEcc lane 0 k :: o.reports }

/-- Step 5: the evidence decision (R50). -/
def decideEvidence (s : State) (r : PassRequest) : EvidenceOutcome :=
  if r.wantEvidence && !s.evidenceExhausted then readEvidence r.lane 8 s
  else { state := s, key := none, corrected := false, reports := [] }

/-- The start part of the evidence serials of this load (R51). -/
def State.startPart (s : State) : BitVec 12 := BitVec.ofNat 12 (s.startCount - 1)

/-- The serial that the next assignment gives (R51). -/
def State.nextSerial (s : State) : Word := s.startPart ++ s.issueCount

/-- The issue count advances, or at its last value EVIDENCE_EXHAUSTED is set (R51). -/
def spendSerial (s : State) : State :=
  if s.issueCount = 0xFFFFF then { s with evidenceExhausted := true }
  else { s with issueCount := s.issueCount + 1 }

/-! ## The dispatch (R33) -/

/-- A request removed from its lane queue by dispatch (R28). -/
def unqueue (r : PassRequest) (s : State) : State :=
  s.setLane r.lane { s.lane r.lane with queue := (s.lane r.lane).queue.erase r }

/-- The work of a request that runs, at its first stage (R45, R53). -/
def startWork (s : State) (r : PassRequest) (k : KeyOutcome) (ev : EvidenceOutcome) (m : Mode) :
    PassWork :=
  let stages := stageList m k.hit ev.key.isSome
  let blocks := (stages.head?.map (stageBlocksOf r)).getD 0
  { request := r
    dispatchGt := s.gt
    mode := m
    verdict := k.verdict
    ref := k.ref
    keys := k.keys
    evidenceKey := ev.key
    serial := if ev.key.isSome then some ev.state.nextSerial else none
    newestGen := newestGenOf k.state r
    staleGen := k.ref.isSome && staleGenOf k.state r
    cacheHit := k.hit
    eccCorrected := k.corrected || ev.corrected
    stages := stages
    stageBlocks := blocks
    stageEnd := after s.gt (blockTime * blocks)
    wbAuth := none
    evMac := none }

/-- STATUS of a request that ran (R63). -/
def ranStatus : Mode → Status
  | .full => .ok
  | .reduced => .reduced
  | .keyless => .ok

/-- The entry of a request that ran (R63, R64). -/
def ranEntry (w : PassWork) (done : Word) : ReturnEntry :=
  { lane := w.request.lane, cells := w.request.cells, status := ranStatus w.mode
    result := runArea w done, firstDone := false }

/-- Steps 6 to 9 for a request that runs in mode `m`: serial, and the engine started or, at cost 0,
the request completed (R33, R36). -/
def runRequest (e : EngineNo) (w : PassWork) (s : State) : State :=
  let s := if w.serial.isSome then spendSerial s else s
  if w.stages.isEmpty then makeEntry (ranEntry w w.dispatchGt) s
  else s.setEngine e (some (.pass w))

/-- The dispatch decision for a chosen request; its reports act after it (R33, R69; log entry 11). -/
def dispatchRequest (e : EngineNo) (r : PassRequest) (s : State) : State :=
  let k := findKey (unqueue r s) r
  let ev := decideEvidence k.state r
  raiseReports (k.reports ++ ev.reports)
    (match chooseMode r (signedDist s.gt r.deadline) k.ref.isSome k.hit ev.key.isSome with
     | none => makeEntry (notRunEntry r .late s.gt) ev.state
     | some m => runRequest e (startWork s r k ev m) ev.state)

/-- An engine granted to a ready head: it captures the transport key, the wrapped key and the KCV
(R93, R38). -/
def grantEngine (e : EngineNo) (h : ServiceRequest) (rest : List ServiceRequest) (s : State) : State :=
  { s with
    engines := s.engines.set e (some (.service
      { transportKey := (s.transport.map TransportKey.key).getD []
        wrapped := srvWrapped h.cell.bytes, kcv := srvKcv h.cell.bytes
        workEnd := after s.gt (blockTime * serviceBlocks) }))
    fifo := { h with phase := .inEngine } :: rest }

/-- DISPATCH: in RUNNING or STOPPING, with an engine free, the arbiter dispatches the chosen pass
request, or with none queued grants the engine to a ready service head (R31, R32). -/
def execDispatch (s : State) : Host.Outcome State Fault Refusal :=
  match s.active, s.freeEngine with
  | true, some e =>
    match s.chosen with
    | some r => .next (dispatchRequest e r s)
    | none =>
      match s.fifo with
      | h :: rest => if h.phase = .ready then .next (grantEngine e h rest s) else .next s
      | [] => .next s
  | _, _ => .next s

end Sys2Proof.Machine
end

