-- ==== Sys2Proof/Machine/Engine.lean ====
section
/-! DEFINITION. The engines' stages: DERIVE, VERIFY, WRITE, EVIDENCE, and the completion of a pass
request (R57 to R65, R117 to R119). -/

namespace Sys2Proof.Machine

/-- The pass work of engine `e` whose current stage is `st`. -/
def State.workAt (s : State) (e : EngineNo) (st : Stage) : Option PassWork :=
  match s.engine e with
  | some (.pass w) => if w.stages.head? = some st then some w else none
  | some (.service _) => none
  | none => none

/-- The completion of the last stage: DONE_TIME is now, the entry is made or the cells are dropped,
and the engine is free (R63). -/
def completeRequest (e : EngineNo) (w : PassWork) (s : State) : State :=
  makeEntry (ranEntry w s.gt) (s.setEngine e none)

/-- The current stage has completed: the next stage in the list starts at once, or the request
completes (R58). -/
def nextStage (e : EngineNo) (w : PassWork) (s : State) : State :=
  match w.stages.tail with
  | [] => completeRequest e { w with stages := [] } s
  | st :: rest =>
    s.setEngine e (some (.pass
      { w with
        stages := st :: rest
        stageBlocks := stageBlocksOf w.request st
        stageEnd := after s.gt (blockTime * stageBlocksOf w.request st) }))

/-- The master key that DERIVE works with. -/
def masterOf : KeyMaterial → Bytes
  | .master k => k
  | .tag _ _ => []
  | .absent => []

/-- K_auth held by an engine. -/
def authOf : KeyMaterial → Bytes
  | .tag a _ => a
  | .master _ => []
  | .absent => []

/-- K_write held by an engine. -/
def writeOf : KeyMaterial → Bytes
  | .tag _ w => w
  | .master _ => []
  | .absent => []

/-- The tag keys derived from the master key of a request's slot (R57). -/
def derivedKeys (w : PassWork) : KeyMaterial :=
  .tag (deriveAuth (masterOf w.keys) w.request.issuer w.request.gen w.request.tagId)
    (deriveWrite (masterOf w.keys) w.request.issuer w.request.gen w.request.tagId)

/-- The cache entry that an offer carries (R117). -/
def offerEntry (w : PassWork) (ref : SlotRef) (keys : KeyMaterial) : CacheEntry :=
  { issuer := w.request.issuer, gen := w.request.gen, tagId := w.request.tagId, ref := ref
    kAuth := authOf keys, kWrite := writeOf keys }

/-- The offer of a request's derived keys (R117); only a key-bearing request has a slot reference. -/
def makeOffer (w : PassWork) (keys : KeyMaterial) (s : State) : State :=
  match w.ref with
  | some ref => cacheOffer (offerEntry w ref keys) s
  | none => s

/-- DERIVE_COMPLETE (R59). -/
def execDeriveComplete (e : EngineNo) (s : State) : Host.Outcome State Fault Refusal :=
  match s.workAt e .derive with
  | none => .next s
  | some w =>
    .next (nextStage e { w with keys := derivedKeys w }
      (makeOffer w (derivedKeys w) (s.runTo w.stageEnd)))

/-- The authenticator that VERIFY computes (R56, domain 0x11). -/
def tagAuthenticator (w : PassWork) : Bytes :=
  let r := w.request
  let m := bytesAt r.challenge 0 8 ++ tagData r
  lkmac (authOf w.keys) (lkmacHeader 0x11 r.issuer r.gen r.tagId (8 + r.plen) r.lane) m

/-- The verdict of VERIFY: all 8 bytes are compared (R60). -/
def verifyVerdict (w : PassWork) : Verdict :=
  if tagAuthenticator w = w.request.tagAuth then .accept else .rejectAuth

/-- The stage list after VERIFY: WRITE is removed on REJECT_AUTH (R60). -/
def stagesAfterVerify (v : Verdict) (stages : List Stage) : List Stage :=
  if v = .rejectAuth then stages.filter fun st => st != .write else stages

/-- VERIFY_COMPLETE (R60). -/
def execVerifyComplete (e : EngineNo) (s : State) : Host.Outcome State Fault Refusal :=
  match s.workAt e .verify with
  | none => .next s
  | some w =>
    .next (nextStage e
      { w with
        verdict := some (verifyVerdict w)
        stages := stagesAfterVerify (verifyVerdict w) w.stages }
      (s.runTo w.stageEnd))

/-- WB_AUTH (R61, domain 0x12). -/
def writeAuthenticator (w : PassWork) : Bytes :=
  let r := w.request
  lkmac (writeOf w.keys) (lkmacHeader 0x12 r.issuer r.gen r.tagId (8 + r.wlen) r.lane)
    (bytesAt r.tagAuth 0 8 ++ writeData r)

/-- WRITE_COMPLETE (R61). -/
def execWriteComplete (e : EngineNo) (s : State) : Host.Outcome State Fault Refusal :=
  match s.workAt e .write with
  | none => .next s
  | some w =>
    .next (nextStage e { w with wbAuth := some (writeAuthenticator w) } (s.runTo w.stageEnd))

/-- The evidence message, 27 bytes (R62, 10.6). -/
def evidenceMessage (gantry : Word) (w : PassWork) : Bytes :=
  beBytes32 gantry ++ [BitVec.ofNat 8 w.request.lane.val, (w.verdict.map verdictCode).getD 0xFF,
    modeCode w.mode] ++ beBytes32 w.request.entryTime ++ beBytes32 w.dispatchGt
    ++ beBytes32 (w.serial.getD 0) ++ bytesAt w.request.tagAuth 0 8

/-- EV_MAC (R62, domain 0x13). -/
def evidenceMac (gantry : Word) (w : PassWork) : Bytes :=
  let r := w.request
  lkmac (w.evidenceKey.getD []) (lkmacHeader 0x13 r.issuer r.gen r.tagId 27 r.lane)
    (evidenceMessage gantry w)

/-- EVIDENCE_COMPLETE (R62). A gantry ID is present whenever a request runs (R70; log entry 24). -/
def execEvidenceComplete (e : EngineNo) (s : State) : Host.Outcome State Fault Refusal :=
  match s.workAt e .evidence with
  | none => .next s
  | some w =>
    .next (nextStage e { w with evMac := some (evidenceMac (s.gantryId.getD 0) w) }
      (s.runTo w.stageEnd))

/-- Blocks left of the current stage at GT `now` (3.1): those not yet completed, 5 µs each. -/
def blocksLeft (w : PassWork) (now : Word) : Nat :=
  min w.stageBlocks (ceilDiv5 (signedDist now w.stageEnd).toNat)

end Sys2Proof.Machine
end

