-- ==== Sys2Proof/Machine/Service.lean ====
section
/-! DEFINITION. The key-store controller: the service requests at the FIFO head (Chapter 5, R42, R44,
R128, R149) and the completion of a service unwrap (R93). -/

namespace Sys2Proof.Machine

/-- The FIFO head of a kind that has arrived and is to be checked: the controller acts in RUNNING and
STOPPING (R91, 9.4; log entry 22). -/
def State.arrived (s : State) (kind : ServiceKind) : Option ServiceRequest :=
  match s.active, s.fifo with
  | true, h :: _ => if h.kind = kind ∧ h.phase = .waiting then some h else none
  | _, _ => none

/-- The head leaves the FIFO. -/
def popHead (s : State) : State := { s with fifo := s.fifo.tail }

/-- The statuses whose result area stays as the host wrote it (R96). -/
def leavesArea : Status → Bool
  | .malformed | .notPermitted | .stopped => true
  | .ok | .reduced | .late | .busy | .locked | .noIssuer | .issuerExists | .noSlice | .noSlot
  | .genOrder | .wrongState | .wrapCheck | .dayBackward | .nvmFail | .noTransport => false

/-- The return entry of a service request completed at GT `now` (R92, R96). -/
def serviceEntry (h : ServiceRequest) (st : Status) (fields : List ResultField) (now : Word) :
    ReturnEntry :=
  if leavesArea st then asReadEntry h.lane [h.cell] st
  else
    { lane := h.lane, cells := [h.cell], status := st, result := serviceArea fields now
      firstDone := false }

/-- The head completes with a status: it leaves the FIFO and its entry is made (R92). -/
def finish (h : ServiceRequest) (st : Status) (fields : List ResultField) (s : State) : State :=
  makeEntry (serviceEntry h st fields s.gt) (popHead s)

/-- The head passes its checks and waits for an engine (R91). -/
def becomeReady (s : State) : State :=
  { s with
    fifo :=
      match s.fifo with
      | [] => []
      | h :: rest => { h with phase := .ready } :: rest }

/-- The directory's dirty mark is set (R85). -/
def markDirectoryDirty (s : State) : State := { s with dirDirty := true }

/-! ## Directory requests (R97 to R99) -/

/-- ISSUER_ADD (R97). -/
def runIssuerAdd (h : ServiceRequest) (s : State) : State :=
  let issuer := srvIssuer h.cell.bytes
  if issuer = 0 then finish h .malformed [] s
  else
    match s.sliceOf issuer with
    | some n => finish h .issuerExists [fSlice n] s
    | none =>
      if s.committingDirectory then finish h .busy [] s
      else
        match s.lowestFree with
        | none => finish h .noSlice [] s
        | some n =>
          finish h .ok [fSlice n]
            (markDirectoryDirty
              (s.setBinding n (some { issuer := issuer, locked := false, dirty := true })))

/-- ISSUER_REMOVE (R98). -/
def runIssuerRemove (h : ServiceRequest) (s : State) : State :=
  let issuer := srvIssuer h.cell.bytes
  if issuer = 0 then finish h .noIssuer [] s
  else
    match s.sliceOf issuer with
    | none => finish h .noIssuer [] s
    | some n =>
      if s.lockedSlice n then finish h .locked [fSlice n] s
      else if s.committingDirectory || s.committingSlice n then finish h .busy [fSlice n] s
      else if s.inUse n ≠ 0 then finish h .wrongState [fSlice n, fInUse (s.inUse n)] s
      else finish h .ok [fSlice n] (markDirectoryDirty (s.setBinding n none))

/-- ISSUER_LOCK (R99). -/
def runIssuerLock (h : ServiceRequest) (s : State) : State :=
  match s.sliceOf (srvIssuer h.cell.bytes) with
  | none => finish h .noIssuer [] s
  | some n =>
    finish h .ok [fSlice n]
      (s.setBinding n ((s.binding n).map fun b => { b with locked := true }))

/-! ## KEY_STAGE (R100, R101) -/

/-- GEN is refused GEN_ORDER in slice `n`: present, not newer than the newest, or more than 127 after
the oldest (R100). -/
def genRefused (s : State) (n : SliceNo) (g : Byte) : Bool :=
  (s.slotOfGen n g).isSome
  || (match newestGen (s.genList n) with
      | none => false
      | some nw => !newerGen g nw)
  || (match oldestGen (s.genList n) with
      | none => false
      | some o => 127 < (g - o).toNat)

/-- The fields of a GEN_ORDER result (R96). -/
def listFields (s : State) (n : SliceNo) : List ResultField :=
  [fSlice n, fOldest ((oldestGen (s.genList n)).getD 0xFF),
    fNewest ((newestGen (s.genList n)).getD 0xFF)]

/-- KEY_STAGE at the head: its checks, in order (R100). -/
def runKeyStage (h : ServiceRequest) (s : State) : State :=
  let c := h.cell.bytes
  match s.sliceOf (srvIssuer c) with
  | none => finish h .noIssuer [] s
  | some n =>
    if s.lockedSlice n then finish h .locked [fSlice n] s
    else if s.committingSlice n then finish h .busy [fSlice n] s
    else if s.transport.isNone then finish h .noTransport [fSlice n] s
    else if (srvToDay c).toNat < (srvFromDay c).toNat then finish h .malformed [] s
    else if genRefused s n (srvGen c) then finish h .genOrder (listFields s n) s
    else if (s.lowestEmpty n).isNone then finish h .noSlot [fSlice n] s
    else becomeReady s

/-- The generation, days and grace that a KEY_STAGE fills; GRACE_DAYS above 60 is taken as 60
(R101). -/
def stageInfo (c : Bytes) : SlotInfo :=
  { gen := srvGen c, fromDay := srvFromDay c, toDay := srvToDay c
    grace := if 60 < (srvGrace c).toNat then 60 else srvGrace c }

/-- The slot that a KEY_STAGE fills with the candidate key (R101); its epoch is raised by
`replaceSlot`. -/
def filledSlot (c : Bytes) (day : Half) (key : Bytes) : Slot :=
  { state := dayState day (stageInfo c), info := some (stageInfo c)
    key := some { value := key, kcv := srvKcv c, ecc := .clean }, epoch := 0 }

/-- A KEY_STAGE whose engine work has completed (R93, R101). That the issuer or an EMPTY slot is gone
is reached by no run (R92; log entry 24). -/
def completeStage (h : ServiceRequest) (key : Bytes) (good : Bool) (s : State) : State :=
  match s.sliceOf (srvIssuer h.cell.bytes) with
  | none => finish h .noIssuer [] s
  | some n =>
    match s.lowestEmpty n with
    | none => finish h .noSlot [fSlice n] s
    | some k =>
      if good then
        finish h .ok
          [fSlice n, fSlot k, fSlotState (dayState s.currentDay (stageInfo h.cell.bytes))]
          (markSliceDirty n (replaceSlot n k (filledSlot h.cell.bytes s.currentDay key) s))
      else finish h .wrapCheck [fSlice n, fSlot k] s

/-! ## KEY_REVOKE and KEY_ERASE (R103 to R105) -/

/-- KEY_REVOKE (R103). -/
def runKeyRevoke (h : ServiceRequest) (s : State) : State :=
  let c := h.cell.bytes
  match s.sliceOf (srvIssuer c) with
  | none => finish h .noIssuer [] s
  | some n =>
    if s.lockedSlice n then finish h .locked [fSlice n] s
    else if s.committingSlice n then finish h .busy [fSlice n] s
    else
      match s.slotOfGen n (srvGen c) with
      | none => finish h .wrongState [fSlice n] s
      | some k =>
        finish h .ok [fSlice n, fSlot k, fSlotState (s.slot n k).state]
          (if (s.slot n k).live then
            markSliceDirty n (replaceSlot n k { s.slot n k with state := .revoked } s)
          else s)

/-- A FAULTY slot erased: EMPTY with its epoch kept, and the slice's mark set (R104, R105). -/
def eraseFaulty (n : SliceNo) (k : SlotNo) (s : State) : State :=
  markSliceDirty n (s.setSlot n k (s.slot n k).cleared)

/-- A slot that held a key erased: EMPTY with its epoch raised, entries purged, mark set (R104). -/
def eraseKeyed (n : SliceNo) (k : SlotNo) (s : State) : State :=
  markSliceDirty n (replaceSlot n k (s.slot n k).cleared s)

/-- KEY_ERASE of the slot that carries GEN (R104). -/
def eraseMatched (h : ServiceRequest) (n : SliceNo) (k : SlotNo) (s : State) : State :=
  let fields := [fSlice n, fSlot k, fSlotState (s.slot n k).state]
  match (s.slot n k).state with
  | .active | .retiring => finish h .wrongState fields s
  | .staged | .expired | .revoked => finish h .ok fields (eraseKeyed n k s)
  | .faulty | .empty => finish h .ok fields (eraseFaulty n k s)

/-- KEY_ERASE (R104, R105). -/
def runKeyErase (h : ServiceRequest) (s : State) : State :=
  let c := h.cell.bytes
  match s.sliceOf (srvIssuer c) with
  | none => finish h .noIssuer [] s
  | some n =>
    if s.lockedSlice n then finish h .locked [fSlice n] s
    else if s.committingSlice n then finish h .busy [fSlice n] s
    else
      match s.slotOfGen n (srvGen c) with
      | some k => eraseMatched h n k s
      | none =>
        match s.lowestBlank n with
        | some k => finish h .ok [fSlice n, fSlot k, fSlotState .faulty] (eraseFaulty n k s)
        | none => finish h .wrongState [fSlice n] s

/-! ## SET_DAY (R106, R107) -/

/-- The state that a slot takes at a new day: LIVE slots follow the day function (R107). -/
def sweptState (d : Half) (x : Slot) : SlotState :=
  if x.live then ((x.info.map (dayState d)).getD x.state) else x.state

/-- The slot leaves {ACTIVE, RETIRING} in the sweep (R107). -/
def leavesService (d : Half) (x : Slot) : Bool := x.serving && sweptState d x == .expired

/-- A slot after the sweep (R107). -/
def sweepSlot (d : Half) (x : Slot) : Slot :=
  { x with
    state := sweptState d x
    epoch := if leavesService d x then x.epoch + 1 else x.epoch }

/-- Slot `k` of bound slice `n` satisfies a test (R107: free slices are not swept). -/
def State.boundSlot (s : State) (n : SliceNo) (k : SlotNo) (p : Slot → Bool) : Bool :=
  (s.binding n).isSome && p (s.slot n k)

/-- How many slots of bound slices satisfy a test. -/
def State.countBound (s : State) (p : Slot → Bool) : Nat :=
  (allSlices.map fun n => allSlots.countP fun k => s.boundSlot n k p).sum

/-- The day sweep at a new day, with the purges of the slots that leave service (R107). -/
def daySweep (d : Half) (s : State) : State :=
  { s with
    currentDay := d
    slices := Vector.ofFn fun n => Vector.ofFn fun k =>
      if (s.binding n).isSome then sweepSlot d (s.slot n k) else s.slot n k
    cache := s.cache.filter fun e => !s.boundSlot e.ref.slice e.ref.slot (leavesService d) }

/-- SET_DAY (R106). -/
def runSetDay (h : ServiceRequest) (s : State) : State :=
  let d := srvDay h.cell.bytes
  if d.toNat < s.currentDay.toNat then finish h .dayBackward [fPriorDay s.currentDay] s
  else if s.committingDirectory then finish h .busy [fPriorDay s.currentDay] s
  else if d = s.currentDay then
    finish h .ok [fPriorDay s.currentDay, fNewDay d, fChanged 0, fLeft 0] s
  else
    finish h .ok
      [fPriorDay s.currentDay, fNewDay d,
        fChanged (s.countBound fun x => x.live && sweptState d x != x.state),
        fLeft (s.countBound (leavesService d))]
      (markDirectoryDirty (daySweep d s))

/-! ## TRANSPORT_REPLACE (R109) -/

/-- TRANSPORT_REPLACE at the head (R109). -/
def runTransportReplace (h : ServiceRequest) (s : State) : State :=
  if s.transport.isNone then finish h .noTransport [] s
  else if s.committingDirectory then finish h .busy [] s
  else becomeReady s

/-- A TRANSPORT_REPLACE whose engine work has completed (R109, R110). -/
def completeReplace (h : ServiceRequest) (key : Bytes) (good : Bool) (s : State) : State :=
  if good then
    finish h .ok []
      (markDirectoryDirty
        { s with transport := some { key := key, kcv := srvKcv h.cell.bytes } })
  else finish h .wrapCheck [] s

/-! ## The unwrap (R93) -/

/-- The service work of engine `e`. -/
def State.serviceAt (s : State) (e : EngineNo) : Option ServiceWork :=
  match s.engine e with
  | some (.service w) => some w
  | some (.pass _) => none
  | none => none

/-- The candidate key K (R93). -/
def candidateKey (w : ServiceWork) : Bytes := blockD w.transportKey w.wrapped

/-- The KCV comparison (R93). -/
def kcvGood (w : ServiceWork) : Bool := keyCheck (candidateKey w) == w.kcv

/-- The controller completes the head whose cipher work has ended (R93). -/
def completeUnwrap (w : ServiceWork) (s : State) : State :=
  match s.fifo with
  | [] => s
  | h :: _ =>
    if h.phase = .inEngine then
      match h.kind with
      | .keyStage => completeStage h (candidateKey w) (kcvGood w) s
      | .transportReplace => completeReplace h (candidateKey w) (kcvGood w) s
      | .issuerAdd | .issuerRemove | .issuerLock | .keyRevoke | .keyErase | .setDay | .commit
      | .logRead | .laneStop | .laneResume => s
    else s

/-- SERVICE_UNWRAP_COMPLETE (R93): the engine is freed, and the controller completes the head. -/
def execServiceUnwrapComplete (e : EngineNo) (s : State) : Host.Outcome State Fault Refusal :=
  match s.serviceAt e with
  | none => .next s
  | some w => .next (completeUnwrap w ((s.runTo w.workEnd).setEngine e none))

/-! ## COMMIT (R128 to R130) -/

/-- The dirty mark of a target (R84, R85). -/
def State.targetDirty (s : State) : CommitTarget → Bool
  | .directory => s.dirDirty
  | .slice n _ => s.dirtySlice n

/-- SLICE_NO of a slice target; the directory gives none (R132). -/
def targetFields : CommitTarget → List ResultField
  | .directory => []
  | .slice n _ => [fSlice n]

/-- A slot's key value is read by a snapshot: it is in a state that holds one (R129). -/
def Slot.holdsKey (x : Slot) : Bool := x.live || x.state == .revoked

/-- The ECC reads of a slice's snapshot, in slot order: the state and the reports they leave
(R129). -/
def snapshotReads (lane : LaneNo) (n : SliceNo) : List SlotNo → State → State × List Report
  | [], s => (s, [])
  | k :: ks, s =>
    if (s.slot n k).holdsKey then
      match readKey (s.slot n k) with
      | .clean _ => snapshotReads lane n ks s
      | .corrected _ =>
        ((snapshotReads lane n ks s).1,
          eccReport .correctedEcc lane n k :: (snapshotReads lane n ks s).2)
      | .failed =>
        ((snapshotReads lane n ks (makeFaulty n k s)).1,
          eccReport .uncorrectedEcc lane n k :: (snapshotReads lane n ks (makeFaulty n k s)).2)
    else snapshotReads lane n ks s

/-- The snapshot of a target: the state after its reads, and their reports (R129, R130). -/
def snapshotState (lane : LaneNo) (t : CommitTarget) (s : State) : State × List Report :=
  match t with
  | .directory => (s, [])
  | .slice n _ => snapshotReads lane n allSlots s

/-- The image of a target (R129, R130). -/
def targetImage (s : State) : CommitTarget → List Word
  | .directory => directoryImage s
  | .slice n issuer => sliceImage s n issuer

/-- A COMMIT starts: snapshot, operation record, erase begun; the request leaves the FIFO with its
cell held (R128). The reports of the snapshot act after the start (R152; log entry 11). -/
def startCommit (h : ServiceRequest) (t : CommitTarget) (s : State) : State :=
  let snap := snapshotState h.lane t s
  raiseReports snap.2
    { popHead snap.1 with
      nvm := beginErase snap.1.nvm (targetSector t)
      nvmOp := some
        { op := .commit
            { target := t, image := targetImage snap.1 t, step := .erase, cell := some h.cell
              lane := h.lane, remark := false }
          startGt := s.gt
          stepEnd := after s.gt eraseTime } }

/-- A COMMIT of a known target that is not BUSY: started when the target is dirty (R128). -/
def commitTarget (h : ServiceRequest) (t : CommitTarget) (s : State) : State :=
  if s.targetDirty t then startCommit h t s
  else finish h .ok (targetFields t ++ [fMarkAfter false]) s

/-- COMMIT at the head: its checks, in order (R128). -/
def runCommit (h : ServiceRequest) (s : State) : State :=
  let c := h.cell.bytes
  if srvTarget c ≠ 0x01 ∧ srvTarget c ≠ 0x02 then finish h .malformed [] s
  else if s.nvmBusy then finish h .busy [] s
  else if srvTarget c = 0x02 then commitTarget h .directory s
  else
    match s.sliceOf (srvIssuer c) with
    | none => finish h .noIssuer [] s
    | some n => commitTarget h (.slice n (srvIssuer c)) s

/-! ## LOG_READ, LANE_STOP, LANE_RESUME (R149, R42, R44) -/

/-- LOG_READ (R149). -/
def runLogRead (h : ServiceRequest) (s : State) : State :=
  finish h .ok [fLog s.errorLog s.errorFlags] s

/-- HELD_COUNT and LANE_STATE of a lane as it stands (R171). -/
def laneFields (l : LaneNo) (s : State) : List ResultField :=
  [fLane (s.lane l).held (s.lane l).state]

/-- LANE_STOP (R42). It leaves the FIFO before its lane is drained, so the drain does not return it,
and its own entry follows the STOPPED entries. -/
def runLaneStop (h : ServiceRequest) (s : State) : State :=
  if hl : srvLane h.cell.bytes < 16 then
    let l : LaneNo := ⟨srvLane h.cell.bytes, hl⟩
    if (s.lane l).state = .running then
      let t := drainLane l (popHead s)
      makeEntry (serviceEntry h .ok (laneFields l t) s.gt) t
    else finish h .wrongState (laneFields l s) s
  else finish h .malformed [] s

/-- The lane as LANE_RESUME sets it (R44). -/
def resumedLane (cursor : Nat) (x : Lane) : Lane :=
  { x with state := .running, cursor := cursor, scanWanted := true, pendingExt := [] }

/-- LANE_RESUME (R44). -/
def runLaneResume (h : ServiceRequest) (s : State) : State :=
  let c := h.cell.bytes
  if hl : srvLane c < 16 then
    let l : LaneNo := ⟨srvLane c, hl⟩
    let x := s.lane l
    if x.state ≠ .disabled ∧ ¬ srvCursor c < x.config.stripLen then finish h .malformed [] s
    else if x.state = .disabled ∨ x.state = .running ∨ x.state = .draining then
      finish h .wrongState (laneFields l s) s
    else if x.state = .halted ∧ 0 < x.held then finish h .busy (laneFields l s) s
    else
      let t := s.setLane l (resumedLane (srvCursor c) x)
      finish h .ok (laneFields l t) t
  else finish h .malformed [] s

/-! ## The commands -/

/-- A service command acts on an arrived head of its kind, and has no effect otherwise (log entries 3
and 22). -/
def onHead (kind : ServiceKind) (f : ServiceRequest → State → State) (s : State) : State :=
  match s.arrived kind with
  | some h => f h s
  | none => s

/-- ISSUER_ADD (R97). -/
def execIssuerAdd (s : State) : Host.Outcome State Fault Refusal :=
  .next (onHead .issuerAdd runIssuerAdd s)

/-- ISSUER_REMOVE (R98). -/
def execIssuerRemove (s : State) : Host.Outcome State Fault Refusal :=
  .next (onHead .issuerRemove runIssuerRemove s)

/-- ISSUER_LOCK (R99). -/
def execIssuerLock (s : State) : Host.Outcome State Fault Refusal :=
  .next (onHead .issuerLock runIssuerLock s)

/-- KEY_STAGE (R100). -/
def execKeyStage (s : State) : Host.Outcome State Fault Refusal :=
  .next (onHead .keyStage runKeyStage s)

/-- KEY_REVOKE (R103). -/
def execKeyRevoke (s : State) : Host.Outcome State Fault Refusal :=
  .next (onHead .keyRevoke runKeyRevoke s)

/-- KEY_ERASE (R104). -/
def execKeyErase (s : State) : Host.Outcome State Fault Refusal :=
  .next (onHead .keyErase runKeyErase s)

/-- SET_DAY (R106). -/
def execSetDay (s : State) : Host.Outcome State Fault Refusal :=
  .next (onHead .setDay runSetDay s)

/-- TRANSPORT_REPLACE (R109). -/
def execTransportReplace (s : State) : Host.Outcome State Fault Refusal :=
  .next (onHead .transportReplace runTransportReplace s)

/-- COMMIT (R128). -/
def execCommit (s : State) : Host.Outcome State Fault Refusal :=
  .next (onHead .commit runCommit s)

/-- LOG_READ (R149). -/
def execLogRead (s : State) : Host.Outcome State Fault Refusal :=
  .next (onHead .logRead runLogRead s)

/-- LANE_STOP (R42). -/
def execLaneStop (s : State) : Host.Outcome State Fault Refusal :=
  .next (onHead .laneStop runLaneStop s)

/-- LANE_RESUME (R44). -/
def execLaneResume (s : State) : Host.Outcome State Fault Refusal :=
  .next (onHead .laneResume runLaneResume s)

end Sys2Proof.Machine
end

