-- ==== Sys2Proof/Machine/NvmSteps.lean ====
section
/-! DEFINITION. The NVM controller's steps: a COMMIT's erase, programs and spoiling program (R131 to
R133), the load (R136 to R141), the zeroize (R142), and damage to key RAM (R77). -/

namespace Sys2Proof.Machine

/-! ## COMMIT in flight (R131 to R133) -/

/-- The record in flight when it is a COMMIT. -/
def State.commitOp (s : State) : Option (NvmRecord × CommitOp) :=
  match s.nvmOp with
  | some r =>
    match r.op with
    | .commit c => some (r, c)
    | .startCount _ _ _ => none
    | .zeroize _ _ => none
  | none => none

/-- The record of a COMMIT at its next step, which ends `t` µs from now. -/
def commitStep (r : NvmRecord) (c : CommitOp) (step : CommitStep) (t : Nat) (s : State) : State :=
  { s with
    nvmOp := some { r with op := .commit { c with step := step }, stepEnd := after s.gt t } }

/-- The return entry of a COMMIT whose operation has ended, when its cell reference is present
(R132, R133). -/
def commitEntry (c : CommitOp) (st : Status) (fields : List ResultField) (s : State) : State :=
  match c.cell with
  | none => s
  | some cell =>
    makeEntry
      { lane := c.lane, cells := [cell], status := st, result := serviceArea fields s.gt
        firstDone := false } s

/-- The dirty mark of a target cleared unless re-mark is set (R132, step 1). -/
def clearMark (c : CommitOp) (s : State) : State :=
  if c.remark then s
  else
    match c.target with
    | .directory => { s with dirDirty := false }
    | .slice n _ => s.setBinding n ((s.binding n).map fun b => { b with dirty := false })

/-- The operation record is discarded and NVM_BUSY clears (R132, R133). -/
def discardRecord (s : State) : State := { s with nvmOp := none }

/-- The commit has succeeded: mark, entry, record (R132). -/
def commitSucceeds (r : NvmRecord) (c : CommitOp) (s : State) : State :=
  discardRecord
    (commitEntry c .ok (targetFields c.target ++ [fStartTime r.startGt, fMarkAfter c.remark])
      (clearMark c s))

/-- A failure report: the spoiling program of the mark word begins (R133). -/
def commitFails (r : NvmRecord) (c : CommitOp) (failWord : Option Nat) (s : State) : State :=
  commitStep r c (.spoil failWord) programTime s

/-- COMMIT_ERASE_END (R131, R133). -/
def execCommitEraseEnd (x : NvmEnd) (s : State) : Host.Outcome State Fault Refusal :=
  match s.commitOp with
  | some (r, c) =>
    if c.step = .erase then
      let t := s.runTo r.stepEnd
      match x with
      | .success =>
        .next (commitStep r c (.program 0) programTime
          { t with nvm := eraseSector t.nvm (targetSector c.target) })
      | .failure =>
        .next (commitFails r c none
          { t with
            nvm := eraseSectorPart t.nvm (targetSector c.target) t.freeIndex
            freeIndex := t.freeIndex + 1 })
    else .next s
  | none => .next s

/-- The program of image word `k` has succeeded: the next word's begins, or at the commit mark word
the commit has succeeded (R131, R132). -/
def programSucceeds (r : NvmRecord) (c : CommitOp) (k : Nat) (s : State) : State :=
  let t := { s with nvm := programWord s.nvm (targetSector c.target) k (c.image.getD k 0) }
  if k = markWordOf (targetSector c.target) then commitSucceeds r c t
  else commitStep r c (.program (k + 1)) programTime t

/-- COMMIT_WORD_PROGRAM_END (R131 to R133). -/
def execCommitWordProgramEnd (x : NvmEnd) (s : State) : Host.Outcome State Fault Refusal :=
  match s.commitOp with
  | some (r, c) =>
    match c.step with
    | .program k =>
      let t := s.runTo r.stepEnd
      match x with
      | .success => .next (programSucceeds r c k t)
      | .failure =>
        .next (commitFails r c (some k)
          { t with
            nvm := programWordPart t.nvm (targetSector c.target) k (c.image.getD k 0)
              (Config.freeMask t.freeIndex)
            freeIndex := t.freeIndex + 1 })
    | .erase => .next s
    | .spoil _ => .next s
  | none => .next s

/-- The slice of a target in a report (R133). -/
def targetSlice : CommitTarget → Option SliceNo
  | .directory => none
  | .slice n _ => some n

/-- The fields of an NVM_FAIL result (R132, R133). -/
def failFields (r : NvmRecord) (c : CommitOp) (failWord : Option Nat) : List ResultField :=
  targetFields c.target ++ [fStartTime r.startGt]
    ++ (match failWord with | none => [] | some k => [fFailWord k])

/-- A spoiling program has ended: report, entry, record (R133). -/
def spoilEnds (r : NvmRecord) (c : CommitOp) (failWord : Option Nat) (s : State) : State :=
  discardRecord
    (commitEntry c .nvmFail (failFields r c failWord)
      (raiseReport
        { cls := .nvmFail, lane := some c.lane, slice := targetSlice c.target, slot := none } s))

/-- The array after a spoiling program of the mark word: 0x00000000 on success, and on a failure,
which is not acted on, a free part of it that is not the commit mark value (R133, R174; log entries 8 and 29). -/
def spoilArray (x : NvmEnd) (c : CommitOp) (s : State) : State :=
  let sec := targetSector c.target
  match x with
  | .success => { s with nvm := programWord s.nvm sec (markWordOf sec) 0 }
  | .failure =>
    { s with
      nvm := spoilWordPart s.nvm sec (Config.freeMask s.freeIndex)
      freeIndex := s.freeIndex + 1 }

/-- SPOIL_PROGRAM_END (R133). -/
def execSpoilProgramEnd (x : NvmEnd) (s : State) : Host.Outcome State Fault Refusal :=
  match s.commitOp with
  | some (r, c) =>
    match c.step with
    | .spoil failWord => .next (spoilEnds r c failWord (spoilArray x c (s.runTo r.stepEnd)))
    | .erase => .next s
    | .program _ => .next s
  | none => .next s

/-! ## The load (R136 to R141) -/

/-- The end of the load's step when that step is in progress: GT has run on to it. -/
def State.loadAt (s : State) (step : LoadStep) : Option State :=
  match s.load with
  | some x => if x.step = step then some (s.runTo x.stepEnd) else none
  | none => none

/-- The load begins its next step, which takes `t` µs (R136). -/
def loadNext (step : LoadStep) (t : Nat) (s : State) : State :=
  { s with load := some { step := step, stepEnd := after s.gt t } }

/-- The load ends in STOPPED (R141). -/
def loadEnds (s : State) : State := { s with load := none, device := .stopped }

/-- The option record taken (R137). -/
def applyOption (o : OptionRecord) (s : State) : State :=
  { s with
    laneLimit := o.laneLimit
    engineCount := o.engineCount
    tamperAction := o.action
    optionDefaulted := o.defaulted }

/-- An erase of a sector of the zeroize begins (R142). -/
def beginZeroizeErase (sector : Nat) (markFailed : Bool) (startGt : Word) (s : State) : State :=
  { s with
    nvm := beginErase s.nvm sector
    nvmOp := some
      { op := .zeroize (.erase sector) markFailed, startGt := startGt
        stepEnd := after s.gt eraseTime } }

/-- The load finds the zeroize mark set: ZEROIZING, from the erase of sector 2 (R137). -/
def zeroizeFromLoad (s : State) : State :=
  beginZeroizeErase 2 false s.gt { s with load := none, device := .zeroizing }

/-- OPTION_RECORD_READ_END (R137). -/
def execOptionRecordReadEnd (s : State) : Host.Outcome State Fault Refusal :=
  match s.loadAt .optionRead with
  | none => .next s
  | some t =>
    let b := readSector t.nvm 0
    let u := applyOption (takeOption b) t
    .next (if zeroizeMarkSet b then zeroizeFromLoad u else loadNext .counterRead readTime u)

/-- START_COUNTER_READ_END (R138). -/
def execStartCounterReadEnd (s : State) : Host.Outcome State Fault Refusal :=
  match s.loadAt .counterRead with
  | none => .next s
  | some t =>
    let b := readSector t.nvm 1
    if startsCounted b < startCounterBits then
      .next
        { loadNext .counterProgram programTime t with
          nvmOp := some
            { op := .startCount (startWord b) (clearLowest (le32 b (4 * startWord b)))
                (startsCounted b)
              startGt := t.gt, stepEnd := after t.gt programTime } }
    else
      .next (loadNext .directoryRead readTime
        { t with startCount := startCounterBits, evidenceExhausted := true })

/-- The NVM_FAIL report of an operation that belongs to no lane (R138, R142). -/
def nvmReport (n : Option SliceNo) : Report :=
  { cls := .nvmFail, lane := none, slice := n, slot := none }

/-- The load goes on to step 4, unless a FAULT_ONLY response has abandoned it (R155; log entry
25). -/
def afterStartCount (s : State) : State :=
  if s.load.isSome then loadNext .directoryRead readTime s else s

/-- START_COUNT_PROGRAM_END (R138). -/
def execStartCountProgramEnd (x : NvmEnd) (s : State) : Host.Outcome State Fault Refusal :=
  match s.nvmOp with
  | some { op := .startCount k v count, startGt := _, stepEnd := e } =>
    let t := s.runTo e
    match x with
    | .success =>
      .next (afterStartCount
        { t with nvm := programWord t.nvm 1 k v, nvmOp := none, startCount := count + 1 })
    | .failure =>
      .next (afterStartCount (raiseReport (nvmReport none)
        { t with
          nvm := programWordPart t.nvm 1 k v (Config.freeMask t.freeIndex)
          freeIndex := t.freeIndex + 1, nvmOp := none
          startCount := count + 1, evidenceExhausted := true }))
  | _ => .next s

/-- The lowest bound slice that step 5 has yet to read: above `last`, or any (R136). -/
def State.nextBound (s : State) (last : Option SliceNo) : Option SliceNo :=
  allSlices.find? fun n =>
    (match last with | none => true | some m => decide (m.val < n.val)) && (s.binding n).isSome

/-- Step 5 goes on to the next bound slice, or the load ends (R136, R141). -/
def loadNextSlice (last : Option SliceNo) (s : State) : State :=
  match s.nextBound last with
  | some n => loadNext (.sliceRead n) readTime s
  | none => loadEnds s

/-- DIRECTORY_IMAGE_READ_END (R139). -/
def execDirectoryImageReadEnd (s : State) : Host.Outcome State Fault Refusal :=
  match s.loadAt .directoryRead with
  | none => .next s
  | some t =>
    let b := readSector t.nvm 2
    if directoryValid b then
      .next (loadNextSlice none
        { t with
          currentDay := le16 b 0, directory := imageBindings b, dirDirty := false
          transport := imageTransport b })
    else
      .next (loadNextSlice none
        { t with
          currentDay := 0, directory := baseDirectory, dirDirty := false
          transport := none, directoryLost := true })

/-- The slot of slice `n` whose KCV check comes next: above `last`, or any, that holds a key
(R140). -/
def State.nextKeyed (s : State) (n : SliceNo) (last : Option SlotNo) : Option SlotNo :=
  allSlots.find? fun k =>
    (match last with | none => true | some m => decide (m.val < k.val)) && (s.slot n k).key.isSome

/-- The KCV checks of slice `n` go on, or the next slice is read (R140). -/
def loadNextKey (n : SliceNo) (last : Option SlotNo) (s : State) : State :=
  match s.nextKeyed n last with
  | some k => loadNext (.kcvCheck n k) kcvTime s
  | none => loadNextSlice (some n) s

/-- The slice whose sector read, and the slot whose KCV check, is in progress. -/
def State.loadStep (s : State) : Option LoadStep := s.load.map LoadState.step

/-- The issuer code bound to slice `n`. -/
def State.issuerOf (s : State) (n : SliceNo) : Half := ((s.binding n).map Binding.issuer).getD 0

/-- The image of slice `n` taken from its sector (R140). -/
def takeSlice (n : SliceNo) (s : State) : State :=
  if sliceValid (readSector s.nvm (sliceSector n)) (s.issuerOf n) then
    loadNextKey n none (loadSlice n (readSector s.nvm (sliceSector n)) s)
  else loadNextSlice (some n) (blankSlice n s)

/-- SLICE_IMAGE_READ_END (R140). -/
def execSliceImageReadEnd (s : State) : Host.Outcome State Fault Refusal :=
  match s.load with
  | some x =>
    match x.step with
    | .sliceRead n => .next (takeSlice n (s.runTo x.stepEnd))
    | .optionRead | .counterRead | .counterProgram | .directoryRead => .next s
    | .kcvCheck _ _ => .next s
  | none => .next s

/-- The loaded key's first 3 bytes of E(key, zero block) equal its KCV (R140). -/
def kcvMatches (x : Slot) : Bool :=
  match x.key with
  | some c => keyCheck c.value == c.kcv
  | none => true

/-- A loaded key whose KCV check fails: FAULTY with its generation, days and grace, no epoch moved
and no mark set, and reported (R140). -/
def kcvMismatch (n : SliceNo) (k : SlotNo) (s : State) : State :=
  raiseReport { cls := .uncorrectedEcc, lane := none, slice := some n, slot := some k }
    (s.setSlot n k { s.slot n k with state := .faulty, key := none })

/-- A KCV check of the load ends (R140). -/
def checkKcv (n : SliceNo) (k : SlotNo) (s : State) : State :=
  loadNextKey n (some k) (if kcvMatches (s.slot n k) then s else kcvMismatch n k s)

/-- KCV_CHECK_END (R140). -/
def execKcvCheckEnd (s : State) : Host.Outcome State Fault Refusal :=
  match s.load with
  | some x =>
    match x.step with
    | .kcvCheck n k => .next (checkKcv n k (s.runTo x.stepEnd))
    | .optionRead | .counterRead | .counterProgram | .directoryRead => .next s
    | .sliceRead _ => .next s
  | none => .next s

/-! ## Zeroize (R142) -/

/-- The step of a zeroize in flight, whether its mark program failed, and its record. -/
def State.zeroizeOp (s : State) : Option (NvmRecord × ZeroizeStep × Bool) :=
  match s.nvmOp with
  | some r =>
    match r.op with
    | .zeroize st f => some (r, st, f)
    | .commit _ => none
    | .startCount _ _ _ => none
  | none => none

/-- Entry to ZEROIZED: the record is discarded and the directory is emptied (R142, R90). -/
def zeroizeEnds (s : State) : State :=
  { s with nvmOp := none, device := .zeroized, directory := Vector.replicate 32 none }

/-- ZEROIZE_MARK_PROGRAM_END (R142, step 3). -/
def execZeroizeMarkProgramEnd (x : NvmEnd) (s : State) : Host.Outcome State Fault Refusal :=
  match s.zeroizeOp with
  | some (r, .mark, _) =>
    let t := s.runTo r.stepEnd
    match x with
    | .success =>
      .next (beginZeroizeErase 2 false r.startGt { t with nvm := programWord t.nvm 0 2 0 })
    | .failure =>
      .next (beginZeroizeErase 2 true r.startGt (raiseReport (nvmReport none)
        { t with
          nvm := programWordPart t.nvm 0 2 0 (Config.freeMask t.freeIndex)
          freeIndex := t.freeIndex + 1 }))
  | _ => .next s

/-- What follows the erase of a sector: the next sector, the final mark, or the end (R142, steps 4 to
6). -/
def afterZeroizeErase (sector : Nat) (markFailed : Bool) (startGt : Word) (s : State) : State :=
  if sector < 34 then beginZeroizeErase (sector + 1) markFailed startGt s
  else if markFailed then
    { s with
      nvmOp := some
        { op := .zeroize .finalMark markFailed, startGt := startGt
          stepEnd := after s.gt programTime } }
  else zeroizeEnds s

/-- The slice whose image a sector holds: sector s of 3..34 holds slice s − 3 (R142). -/
def sectorSlice (sector : Nat) : Option SliceNo :=
  if h : 3 ≤ sector ∧ sector - 3 < 32 then some ⟨sector - 3, h.2⟩ else none

/-- ZEROIZE_SECTOR_ERASE_END (R142, step 4). -/
def execZeroizeSectorEraseEnd (x : NvmEnd) (s : State) : Host.Outcome State Fault Refusal :=
  match s.zeroizeOp with
  | some (r, .erase sec, f) =>
    let t := s.runTo r.stepEnd
    match x with
    | .success =>
      .next (afterZeroizeErase sec f r.startGt { t with nvm := eraseSector t.nvm sec })
    | .failure =>
      .next (afterZeroizeErase sec f r.startGt (raiseReport (nvmReport (sectorSlice sec))
        { t with
          nvm := eraseSectorPart t.nvm sec t.freeIndex
          freeIndex := t.freeIndex + 1 }))
  | _ => .next s

/-- ZEROIZE_FINAL_MARK_END (R142, steps 5 and 6). -/
def execZeroizeFinalMarkEnd (x : NvmEnd) (s : State) : Host.Outcome State Fault Refusal :=
  match s.zeroizeOp with
  | some (r, .finalMark, _) =>
    let t := s.runTo r.stepEnd
    match x with
    | .success => .next (zeroizeEnds { t with nvm := programWord t.nvm 0 2 0 })
    | .failure =>
      .next (zeroizeEnds (raiseReport (nvmReport none)
        { t with
          nvm := programWordPart t.nvm 0 2 0 (Config.freeMask t.freeIndex)
          freeIndex := t.freeIndex + 1 }))
  | _ => .next s

/-! ## Damage to key RAM (R77) -/

/-- What later ECC reads of damaged bits report. -/
def damagedEcc : Damage → Ecc
  | .correctable => .correctable
  | .uncorrectable => .uncorrectable

/-- KEY_RAM_DAMAGE: later ECC reads of the slot's key value report the damage until the slot is
erased or reloaded; a slot without a key value has no stored bits to damage (R77; log entry 10). -/
def execKeyRamDamage (n : SliceNo) (k : SlotNo) (d : Damage) (s : State) :
    Host.Outcome State Fault Refusal :=
  .next (s.setSlot n k
    { s.slot n k with key := (s.slot n k).key.map fun c => { c with ecc := damagedEcc d } })

end Sys2Proof.Machine
end

