-- ==== Sys2Proof/Machine/Dispatch.lean ====
section
/-! DEFINITION. The dispatch of commands to their meanings: one arm per row of the table. -/

namespace Sys2Proof.Machine

-- exec c s is the command's effect on everything but the queue.
def exec (i : Instr) (s : State) : Host.Outcome State Fault Refusal :=
  match i with
  | .coldReset => Sys2Proof.Machine.execColdReset s
  | .tamperAssert => Sys2Proof.Machine.execTamperAssert s
  | .tamperRelease => Sys2Proof.Machine.execTamperRelease s
  | .start w => Sys2Proof.Machine.execStart w s
  | .stop w => Sys2Proof.Machine.execStop w s
  | .softReset w => Sys2Proof.Machine.execSoftReset w s
  | .lock w => Sys2Proof.Machine.execLock w s
  | .stationBaseWrite half v => Sys2Proof.Machine.execStationBaseWrite half v s
  | .post v => Sys2Proof.Machine.execPost v s
  | .noticePendingWrite v => Sys2Proof.Machine.execNoticePendingWrite v s
  | .errorFlagsWrite v => Sys2Proof.Machine.execErrorFlagsWrite v s
  | .ignoredRegisterWrite offset width v => Sys2Proof.Machine.execIgnoredRegisterWrite offset width v s
  | .stationRecordReadIssue => Sys2Proof.Machine.execStationRecordReadIssue s
  | .stationRecordReadEnd r => Sys2Proof.Machine.execStationRecordReadEnd r s
  | .cellReadIssue => Sys2Proof.Machine.execCellReadIssue s
  | .cellReadEnd r => Sys2Proof.Machine.execCellReadEnd r s
  | .deadlineExpiry l take => Sys2Proof.Machine.execDeadlineExpiry l take s
  | .dispatch => Sys2Proof.Machine.execDispatch s
  | .deriveComplete e => Sys2Proof.Machine.execDeriveComplete e s
  | .verifyComplete e => Sys2Proof.Machine.execVerifyComplete e s
  | .writeComplete e => Sys2Proof.Machine.execWriteComplete e s
  | .evidenceComplete e => Sys2Proof.Machine.execEvidenceComplete e s
  | .serviceUnwrapComplete e => Sys2Proof.Machine.execServiceUnwrapComplete e s
  | .issuerAdd => Sys2Proof.Machine.execIssuerAdd s
  | .issuerRemove => Sys2Proof.Machine.execIssuerRemove s
  | .issuerLock => Sys2Proof.Machine.execIssuerLock s
  | .keyStage => Sys2Proof.Machine.execKeyStage s
  | .keyRevoke => Sys2Proof.Machine.execKeyRevoke s
  | .keyErase => Sys2Proof.Machine.execKeyErase s
  | .setDay => Sys2Proof.Machine.execSetDay s
  | .transportReplace => Sys2Proof.Machine.execTransportReplace s
  | .commit => Sys2Proof.Machine.execCommit s
  | .logRead => Sys2Proof.Machine.execLogRead s
  | .laneStop => Sys2Proof.Machine.execLaneStop s
  | .laneResume => Sys2Proof.Machine.execLaneResume s
  | .writeChannelIssue => Sys2Proof.Machine.execWriteChannelIssue s
  | .returnFirstWriteEnd r => Sys2Proof.Machine.execReturnFirstWriteEnd r s
  | .returnOwnWriteEnd r => Sys2Proof.Machine.execReturnOwnWriteEnd r s
  | .noticeWriteEnd r => Sys2Proof.Machine.execNoticeWriteEnd r s
  | .errorNoticeWriteEnd r => Sys2Proof.Machine.execErrorNoticeWriteEnd r s
  | .commitEraseEnd r => Sys2Proof.Machine.execCommitEraseEnd r s
  | .commitWordProgramEnd r => Sys2Proof.Machine.execCommitWordProgramEnd r s
  | .spoilProgramEnd r => Sys2Proof.Machine.execSpoilProgramEnd r s
  | .optionRecordReadEnd => Sys2Proof.Machine.execOptionRecordReadEnd s
  | .startCounterReadEnd => Sys2Proof.Machine.execStartCounterReadEnd s
  | .startCountProgramEnd r => Sys2Proof.Machine.execStartCountProgramEnd r s
  | .directoryImageReadEnd => Sys2Proof.Machine.execDirectoryImageReadEnd s
  | .sliceImageReadEnd => Sys2Proof.Machine.execSliceImageReadEnd s
  | .kcvCheckEnd => Sys2Proof.Machine.execKcvCheckEnd s
  | .zeroizeMarkProgramEnd r => Sys2Proof.Machine.execZeroizeMarkProgramEnd r s
  | .zeroizeSectorEraseEnd r => Sys2Proof.Machine.execZeroizeSectorEraseEnd r s
  | .zeroizeFinalMarkEnd r => Sys2Proof.Machine.execZeroizeFinalMarkEnd r s
  | .keyRamDamage n k d => Sys2Proof.Machine.execKeyRamDamage n k d s

end Sys2Proof.Machine
end

