-- ==== Sys2Proof/Safety.lean ====
section
/-! DEFINITION. The laws that the machine keeps at every step, and the words in which the statements
about commands are written. -/

namespace Sys2Proof.Machine

/-! ## Laws of the state -/

/-- The two memories are in canonical form (log entries 5 and 16). -/
def MemoryLaw (s : State) : Prop := nvmWf s.nvm = true ∧ memSorted s.hostMem = true

/-- What ties the device state to the operations in progress: a live station record read belongs to
an accepted START (R163), a START waits in STOPPED only (R162), a load runs in LOADING only (R141), a
zeroize in ZEROIZING only (R142), and no engine works in LOADING, FAULTED, ZEROIZING or ZEROIZED
(R39). -/
structure ControlLaw (s : State) : Prop where
  live_read_has_start : s.readChannel = .station false → s.startReq.isSome = true
  start_in_stopped : s.startReq.isSome = true → s.device = .stopped
  load_in_loading : s.load.isSome = true → s.device = .loading
  zeroize_in_zeroizing : s.zeroizeOp.isSome = true → s.device = .zeroizing
  engines_free : (s.device = .loading ∨ s.frozen = true) → ∀ e, s.engine e = none

/-- No lane holds more than 8 cells, a lane with a read in flight holds fewer (R9, R11), and a PAUSED
lane holds none (R40). -/
structure HeldLaw (s : State) : Prop where
  held_limit : ∀ l, (s.lane l).held ≤ 8
  reading_below : ∀ r, s.readChannel = .cell r → (s.lane r.lane).held < 8
  paused_empty : ∀ l, (s.lane l).state = .paused → (s.lane l).held = 0

/-- Lane states follow the device (R40, R165, R166): in STOPPED and LOADING every lane is DISABLED,
in STOPPING none is RUNNING, and a service request that has not been granted an engine belongs to a
RUNNING lane. -/
structure LaneLaw (s : State) : Prop where
  stopped_disabled :
    (s.device = .stopped ∨ s.device = .loading) → ∀ l, (s.lane l).state = .disabled
  stopping_none_running : s.device = .stopping → ∀ l, (s.lane l).state ≠ .running
  waiting_running : ∀ r ∈ s.fifo, r.phase ≠ .inEngine → (s.lane r.lane).state = .running

/-- The directory binds each code to at most one slice, and issuer 0x0000 to slice 0 in every device
state but ZEROIZED (R71). -/
structure DirectoryLaw (s : State) : Prop where
  codes_distinct :
    ∀ m n b c, s.binding m = some b → s.binding n = some c → b.issuer = c.issuer → m = n
  station_bound : s.device ≠ .zeroized → ∃ b, s.binding 0 = some b ∧ b.issuer = 0

/-- The cache holds at most 32 entries, at most one for each triple (R112). -/
structure CacheLaw (s : State) : Prop where
  size : s.cache.length ≤ 32
  distinct : (s.cache.map fun e => (e.issuer, e.gen, e.tagId)).Nodup

/-- A zeroize erases sectors 2 to 34 only (R142). -/
def ZeroizeRange (s : State) : Prop :=
  ∀ r sector f, s.zeroizeOp = some (r, .erase sector, f) → 2 ≤ sector ∧ sector ≤ 34

/-- What a slot holds in each state, at a day (R74, R76, R81): nothing when EMPTY; its fields, with days in
order and a grace of at most 60 days, otherwise; a key that reads without error when LIVE or REVOKED; and a
LIVE state is the day function's. -/
structure SlotSound (day : Half) (x : Slot) : Prop where
  empty_holds_nothing : x.state = .empty → x.info = none ∧ x.key = none
  faulty_has_no_key : x.state = .faulty → x.key = none
  keyed : x.holdsKey = true → ∃ i c, x.info = some i ∧ x.key = some c ∧ c.ecc = .clean
    ∧ c.value.length = 16 ∧ c.kcv.length = 3
  days_ordered : ∀ i, x.info = some i → i.fromDay.toNat ≤ i.toDay.toNat ∧ i.grace.toNat ≤ 60
  live_by_day : x.live = true → ∀ i, x.info = some i → x.state = dayState day i

/-- The key store beside the load (R76, R81, R98, R136 to R140): the program of START_COUNT in a load is
its step 3; until the directory image has been read every slot is EMPTY, a slice that is being read or
checked is bound, and in LOADING cache and service FIFO are empty; an EMPTY slot holds nothing, a free slice
has EMPTY slots only, and the state of a LIVE slot is the day function's. -/
structure SlotLaw (s : State) : Prop where
  count_in_step : ∀ r x k v c, s.nvmOp = some r → r.op = .startCount k v c → s.load = some x →
    x.step = .counterProgram
  early_empty : ∀ x, s.load = some x →
    (x.step = .optionRead ∨ x.step = .counterRead ∨ x.step = .counterProgram ∨ x.step = .directoryRead) →
    ∀ n k, (s.slot n k).state = .empty
  read_bound : ∀ x n, s.load = some x → (x.step = .sliceRead n ∨ ∃ k, x.step = .kcvCheck n k) →
    s.binding n ≠ none
  loading_quiet : s.device = .loading → s.cache = [] ∧ s.fifo = []
  empty_holds_nothing : ∀ n k, (s.slot n k).state = .empty →
    (s.slot n k).info = none ∧ (s.slot n k).key = none
  free_empty : s.device ≠ .zeroized → ∀ n, s.binding n = none → ∀ k, (s.slot n k).state = .empty
  live_by_day : ∀ n k i, (s.slot n k).live = true → (s.slot n k).info = some i →
    (s.slot n k).state = dayState s.currentDay i

/-- Every entry of the cache names a slot that is ACTIVE or RETIRING at the entry's epoch (R112), and so
does every request in an engine whose captured epoch is still the slot's (R118). -/
structure ServingLaw (s : State) : Prop where
  entries : ∀ x ∈ s.cache,
    ((s.slot x.ref.slice x.ref.slot).state = .active ∨ (s.slot x.ref.slice x.ref.slot).state = .retiring)
      ∧ (s.slot x.ref.slice x.ref.slot).epoch = x.ref.epoch
  works : ∀ e w ref, s.engine e = some (.pass w) → w.ref = some ref →
    ref.epoch.toNat ≤ (s.slot ref.slice ref.slot).epoch.toNat
      ∧ ((s.slot ref.slice ref.slot).epoch = ref.epoch →
        (s.slot ref.slice ref.slot).state = .active ∨ (s.slot ref.slice ref.slot).state = .retiring)

/-- No request in an engine refers to a slot whose epoch stands at its last value, from which it would wrap
to 0 (R83). -/
def NoWrapAhead (s : State) : Prop :=
  ∀ e w ref, s.engine e = some (.pass w) → w.ref = some ref →
    (s.slot ref.slice ref.slot).epoch ≠ 0xFFFF

/-- The generation order of every slice (R78): pairwise distinct generations within a serial span of 127
from one of them; and only the FIFO's head has begun, with a generation that its slice still admits when it
is a KEY_STAGE (R91, R100). -/
structure GenerationLaw (s : State) : Prop where
  distinct : ∀ n j k g, (s.slot n j).gen? = some g → (s.slot n k).gen? = some g → j = k
  span : ∀ n k g, (s.slot n k).gen? = some g →
    ∃ j o, (s.slot n j).gen? = some o ∧ ∀ i h, (s.slot n i).gen? = some h → (h - o).toNat ≤ 127
  head_only : ∀ r ∈ s.fifo.tail, r.phase = .waiting
  admitted : ∀ h rest n b k g, s.fifo = h :: rest → h.kind = .keyStage → h.phase ≠ .waiting →
    s.binding n = some b → b.issuer = le16 h.cell.bytes 6 → (s.slot n k).gen? = some g →
    1 ≤ (byteAt h.cell.bytes 8 - g).toNat ∧ (byteAt h.cell.bytes 8 - g).toNat ≤ 127

/-! ## Words of the statements -/

/-- `h` is the head of the FIFO with `rest` behind it, of the given kind, arrived and not yet
checked, in a device state in which the controller acts (R91). -/
def Arrived (kind : ServiceKind) (h : ServiceRequest) (rest : List ServiceRequest) (s : State) :
    Prop :=
  s.active = true ∧ s.fifo = h :: rest ∧ h.kind = kind ∧ h.phase = .waiting

/-- A cell read of lane `l` at strip position `pos` is in flight, inside the window, and neither stale
nor discarded; its lane is RUNNING and the traffic is not frozen (R9 to R11). -/
def Reading (l : LaneNo) (pos : Nat) (s : State) : Prop :=
  s.readChannel =
      .cell { lane := l, pos := pos, stale := false, discarded := false, refused := false }
    ∧ (s.lane l).state = .running ∧ s.frozen = false

/-- Slice `n` is bound to the issuer code, and no other slice is (R71). -/
def BoundTo (s : State) (issuer : Half) (n : SliceNo) : Prop :=
  (∃ b, s.binding n = some b ∧ b.issuer = issuer)
  ∧ ∀ m b, s.binding m = some b → b.issuer = issuer → m = n

/-- No slice is bound to the issuer code (R95: absent). -/
def Unbound (s : State) (issuer : Half) : Prop := ∀ m b, s.binding m = some b → b.issuer ≠ issuer

/-- Engine `e` is the one that the arbiter hands out: engine 0 when it is free, and engine 1 when only
it is free and the engine count is 2 (R30, R31). -/
def HandedOut (e : EngineNo) (s : State) : Prop :=
  s.active = true
    ∧ ((e = 0 ∧ s.engine 0 = none)
      ∨ (e = 1 ∧ s.engine 0 ≠ none ∧ s.engine 1 = none ∧ s.engineCount = 2))

/-- Request `a` is ranked before request `b`: nearer deadline, then lower priority value of its lane,
then lower lane number, then earlier take (R32). -/
def Ranked (s : State) (a b : PassRequest) : Prop :=
  (a.deadline - s.gt).toInt < (b.deadline - s.gt).toInt
    ∨ ((a.deadline - s.gt).toInt = (b.deadline - s.gt).toInt
      ∧ ((s.lane a.lane).config.priority < (s.lane b.lane).config.priority
        ∨ ((s.lane a.lane).config.priority = (s.lane b.lane).config.priority
          ∧ (a.lane.val < b.lane.val
            ∨ (a.lane = b.lane ∧ 0 < (b.take - a.take).toInt)))))

/-- Request `r` is queued in its lane and ranked before every other queued request (R32). -/
def Chosen (r : PassRequest) (s : State) : Prop :=
  r ∈ (s.lane r.lane).queue ∧ ∀ l, ∀ q ∈ (s.lane l).queue, q = r ∨ Ranked s r q

/-- The newest generation of the ACTIVE slots of slice `n` in the serial order of 5.4, or none when it has
no ACTIVE slot (R49, R82). -/
def NewestActive (s : State) (n : SliceNo) : Option Byte → Prop
  | none => ∀ k, (s.slot n k).state ≠ .active
  | some g =>
    (∃ k, (s.slot n k).state = .active ∧ (s.slot n k).gen? = some g)
      ∧ ∀ k h, (s.slot n k).state = .active → (s.slot n k).gen? = some h → h ≠ g →
        1 ≤ (g - h).toNat ∧ (g - h).toNat ≤ 127

/-- A commit of the directory is in flight (R95). -/
def CommittingDirectory (s : State) : Prop :=
  ∃ r c, s.nvmOp = some r ∧ r.op = .commit c ∧ c.target = .directory

/-- A commit of slice `n` is in flight (R95). -/
def CommittingSlice (s : State) (n : SliceNo) : Prop :=
  ∃ r c code, s.nvmOp = some r ∧ r.op = .commit c ∧ c.target = .slice n code

/-- An entry of the cache meets the four conditions of a hit for a request and the slot reference that its
lookup has recorded (R114): the request's triple, the slice and slot of the reference, the slot's present
epoch, and a slot that is ACTIVE or RETIRING. -/
def EntryHits (s : State) (r : PassRequest) (ref : SlotRef) (y : CacheEntry) : Prop :=
  y ∈ s.cache ∧ y.issuer = r.issuer ∧ y.gen = r.gen ∧ y.tagId = r.tagId
    ∧ y.ref.slice = ref.slice ∧ y.ref.slot = ref.slot
    ∧ y.ref.epoch = (s.slot ref.slice ref.slot).epoch
    ∧ ((s.slot ref.slice ref.slot).state = .active ∨ (s.slot ref.slice ref.slot).state = .retiring)

/-- The probe of a request misses: no entry meets the conditions (R114). -/
def ProbeMisses (s : State) (r : PassRequest) (ref : SlotRef) : Prop := ∀ y, ¬ EntryHits s r ref y

/-- The probe of a request hits `y`, the one entry that meets the conditions (R114, R112). -/
def ProbeHits (s : State) (r : PassRequest) (ref : SlotRef) (y : CacheEntry) : Prop :=
  EntryHits s r ref y ∧ ∀ z, EntryHits s r ref z → z = y

/-- From `u` to `t`: one held cell of lane `l` is dropped and nothing else happens, but that STOPPING ends
with the last held cell (R22, R166). -/
def CellDropped (l : LaneNo) (u t : State) : Prop :=
  ((u.device ≠ .stopping ∨ 1 < (u.lane l).held ∨ ∃ m, m ≠ l ∧ (u.lane m).held ≠ 0) →
    t = { u with lanes := u.lanes.set l { u.lane l with held := (u.lane l).held - 1 } })
  ∧ (u.device = .stopping → (u.lane l).held ≤ 1 → (∀ m, m ≠ l → (u.lane m).held = 0) →
    t = { u with device := .stopped, lanes := t.lanes }
    ∧ ∀ m, t.lane m = { u.lane m with state := .disabled, held := 0 })

/-- NEWEST_GEN of a request (R49): the newest ACTIVE generation of its issuer's slice, and 0xFF when there
is none or the issuer is not found. -/
def NewestGen (s : State) (r : PassRequest) (g : Byte) : Prop :=
  ((r.issuer = 0 ∨ Unbound s r.issuer) ∧ g = 0xFF)
    ∨ ∃ n o, r.issuer ≠ 0 ∧ BoundTo s r.issuer n ∧ NewestActive s n o ∧ g = o.getD 0xFF

/-- Slot `k` of slice 0 is ACTIVE and its generation is newer than that of every other ACTIVE slot of the
slice (R50, 5.4). -/
def NewestStation (s : State) (k : SlotNo) : Prop :=
  (s.slot 0 k).state = .active ∧ ∃ g, (s.slot 0 k).gen? = some g
    ∧ ∀ j, j ≠ k → (s.slot 0 j).state = .active →
      ∃ h, (s.slot 0 j).gen? = some h ∧ 1 ≤ (g - h).toNat ∧ (g - h).toNat ≤ 127

/-- The evidence-key reads that a request of a lane makes from a state (R50, test 3): the key found if
any, whether its read corrected an error, the reports in order, and the state the reads leave. -/
inductive EvidenceReads (lane : LaneNo) : State → Option Bytes → Bool → List Report → State → Prop
  | noneLeft (s : State) : (∀ k, (s.slot 0 k).state ≠ .active) → EvidenceReads lane s none false [] s
  | clean (s : State) (k : SlotNo) (c : KeyCell) : NewestStation s k → (s.slot 0 k).key = some c →
      c.ecc = .clean → EvidenceReads lane s (some c.value) false [] s
  | corrected (s : State) (k : SlotNo) (c : KeyCell) : NewestStation s k → (s.slot 0 k).key = some c →
      c.ecc = .correctable →
      EvidenceReads lane s (some c.value) true [eccReport .correctedEcc lane 0 k] s
  | uncorrectable (s : State) (k : SlotNo) (c : KeyCell) (key : Option Bytes) (fixed : Bool)
      (reports : List Report) (t : State) : NewestStation s k → (s.slot 0 k).key = some c →
      c.ecc = .uncorrectable → EvidenceReads lane (makeFaulty 0 k s) key fixed reports t →
      EvidenceReads lane s key fixed (eccReport .uncorrectedEcc lane 0 k :: reports) t

/-- The evidence decision of a request (R50): no key and no read when it wants none or the serials are
exhausted, and otherwise what the reads give. -/
def EvidenceDecided (r : PassRequest) (s : State) (key : Option Bytes) (fixed : Bool)
    (reports : List Report) (t : State) : Prop :=
  ((r.wantEvidence = false ∨ s.evidenceExhausted = true)
      ∧ key = none ∧ fixed = false ∧ reports = [] ∧ t = s)
    ∨ (r.wantEvidence = true ∧ s.evidenceExhausted = false
      ∧ EvidenceReads r.lane s key fixed reports t)

/-- The issue count after the dispatch of a request that runs: with evidence it rises by 1, or stays at its
last value (R51). -/
def issueAfter (s : State) (ev : Option Bytes) : BitVec 20 :=
  if ev.isSome = true ∧ s.issueCount ≠ 0xFFFFF then s.issueCount + 1 else s.issueCount

/-- EVIDENCE_EXHAUSTED after the dispatch of a request that runs: set with the last serial (R51). -/
def exhaustedAfter (s : State) (ev : Option Bytes) : Bool :=
  s.evidenceExhausted || (ev.isSome && decide (s.issueCount = 0xFFFFF))

/-- The blocks of a request's EVIDENCE stage (R34). -/
def evidencePart (ev : Option Bytes) : Nat := if ev.isSome then 3 else 0

/-- The lanes with a request removed from its queue (R28). -/
def lanesWithout (r : PassRequest) (s : State) : Vector Lane 16 :=
  s.lanes.set r.lane { s.lane r.lane with queue := (s.lane r.lane).queue.erase r }

/-- The pass work `w` runs in engine `e` with `st` as its current stage (R45). -/
def Working (e : EngineNo) (w : PassWork) (st : Stage) (s : State) : Prop :=
  s.engine e = some (.pass w) ∧ w.stages.head? = some st

/-- The state with engine `e` at the next stage of `w`, which begins now (R58). -/
def atStage (e : EngineNo) (w : PassWork) (st : Stage) (rest : List Stage) (s : State) : State :=
  { s with
    engines := s.engines.set e (some (.pass
      { w with
        stages := st :: rest, stageBlocks := stageBlocksOf w.request st
        stageEnd := s.gt + BitVec.ofNat 32 (5 * stageBlocksOf w.request st) })) }

/-- What every take does to its lane: the held count rises and the cursor advances (R11). -/
def takenLane (x : Lane) : Lane :=
  { x with held := x.held + 1, cursor := (x.cursor + 1) % x.config.stripLen }

/-- Bytes 36..59 of a service result: the leading bytes given, the others 0xFF (R171). -/
def leading (bytes : Bytes) : Bytes := bytes ++ List.replicate (24 - bytes.length) 0xFF

/-- The FIFO is left with `rest`, and the head's entry is made with STATUS `st`, bytes 36..59 of its
result area and DONE_TIME (R92, R171). -/
def completedWith (h : ServiceRequest) (rest : List ServiceRequest) (st : Status) (area : Bytes)
    (s : State) : State :=
  makeEntry
    { lane := h.lane, cells := [h.cell], status := st, result := area ++ leBytes32 s.gt
      firstDone := false }
    { s with fifo := rest }

/-- The same with the result area left as the host wrote it (R171). -/
def completedAsWritten (h : ServiceRequest) (rest : List ServiceRequest) (st : Status) (s : State) :
    State :=
  makeEntry
    { lane := h.lane, cells := [h.cell], status := st, result := bytesAt h.cell.bytes 36 28
      firstDone := false }
    { s with fifo := rest }

/-- From array `m` to `m'`: an erase of a sector cut short or failed. Its last word and its image's commit
mark word are erased, its other bytes are open, and no other byte changes (R125; log entries 8 and 9). -/
def ErasePart (m m' : List Host.Cell) (sec : Nat) : Prop :=
  nvmWord m' sec 127 = 0xFFFFFFFF ∧ nvmWord m' sec (if sec = 2 then 79 else 71) = 0xFFFFFFFF
    ∧ ∀ a, (a < 512 * sec ∨ 512 * sec + 512 ≤ a) → nvmGet m' a = nvmGet m a

/-- From array `m` to `m'`: a program of `v` into word `k` of a sector cut short or failed. Only bits
that are 0 in `v` may have fallen, none has risen, and no other word changes (R125; log entry 8). -/
def ProgramPart (m m' : List Host.Cell) (sec k : Nat) (v : Word) : Prop :=
  nvmWord m' sec k &&& nvmWord m sec k = nvmWord m' sec k
    ∧ nvmWord m' sec k &&& (nvmWord m sec k &&& v) = nvmWord m sec k &&& v
    ∧ ∀ a, (a < 512 * sec + 4 * k ∨ 512 * sec + 4 * k + 4 ≤ a) → nvmGet m' a = nvmGet m a

/-- The array, and the count of free values used, after the operation in flight, if there is one, has been
cut at the step it has reached (R135, R142). -/
def CutTo (s : State) (m : List Host.Cell) (i : Nat) : Prop :=
  (s.nvmOp = none ∧ m = s.nvm ∧ i = s.freeIndex)
    ∨ ∃ r, s.nvmOp = some r ∧ m = cutArray s.nvm s.freeIndex r.op ∧ i = s.freeIndex + 1

/-- Slot `k` is the only slot of slice `n` that carries the generation (R47). -/
def Carries (s : State) (n : SliceNo) (k : SlotNo) (g : Byte) : Prop :=
  (s.slot n k).gen? = some g ∧ ∀ j, (s.slot n j).gen? = some g → j = k

/-- No slot of slice `n` carries the generation (R47). -/
def CarriedByNone (s : State) (n : SliceNo) (g : Byte) : Prop := ∀ k, (s.slot n k).gen? ≠ some g

end Sys2Proof.Machine
end

