-- ==== Sys2Proof/Certificates/Slice0/Obligations.lean ====
section
/-! DEFINITION. The statements for the provers. A command's statement says what it answers and, by an
equation whose right side names every field that changes, that nothing else changes. -/

section

open Sys2Proof Sys2Proof.Machine

/-! ## The step -/

/-- A step runs the command at the front of the queue on the state with the queue's rest; on an empty
queue one microsecond passes and nothing else happens, in every device state (R26): that a step is then a
microsecond is the model's choice (log entry 1). -/
def Obligations.StepRunsFrontCommand : Prop :=
  (∀ (c : Instr) (rest : List Instr) (s : State), s.pending = c :: rest →
     step s = exec c { s with pending := rest })
  ∧ (∀ s : State, s.pending = [] →
       ∃ t, step s = .next t ∧ t = { s with gt := t.gt } ∧ t.gt.toNat = (s.gt.toNat + 1) % 2 ^ 32)

/-! ## Register writes and reads (R157 to R167) -/

/-- A CONTROL write is decoded as R159 gives, whichever of the four rows carries it: SOFT_RESET excludes
every other bit; LOCK sets the lock; START with STOP is ignored. START by device state (R162): the accepted
START takes the STATION_BASE address (R163); one that is not 4 KB aligned ends BAD_STATION with no read (R1),
at the write (log entry 15). -/
def Obligations.ControlWrites : Prop :=
  (∀ (w : Word) (s : State) (c : Instr),
     (c = .start w ∨ c = .stop w ∨ c = .softReset w ∨ c = .lock w) →
     (w.getLsbD 2 = true → exec c s = exec (.softReset 4) s)
     ∧ (w.getLsbD 2 = false →
         (w.getLsbD 0 = true ∧ w.getLsbD 1 = false →
           exec c s = exec (.start 1) { s with lock := s.lock || w.getLsbD 3 })
         ∧ (w.getLsbD 0 = false ∧ w.getLsbD 1 = true →
           exec c s = exec (.stop 2) { s with lock := s.lock || w.getLsbD 3 })
         ∧ (w.getLsbD 0 = w.getLsbD 1 →
           exec c s = .next { s with lock := s.lock || w.getLsbD 3 })))
  ∧ (∀ s : State,
       (s.device = .stopped ∧ s.startReq = none →
         ((s.stationBaseHi ++ s.stationBaseLo).toNat % 4096 = 0 →
           exec (.start 1) s = .next { s with
             startResult := .reading
             startReq := some { addr := s.stationBaseHi ++ s.stationBaseLo, issued := false } })
         ∧ ((s.stationBaseHi ++ s.stationBaseLo).toNat % 4096 ≠ 0 →
           exec (.start 1) s = .next { s with startResult := .badStation }))
       ∧ (s.device = .stopped ∧ s.startReq.isSome = true → exec (.start 1) s = .next s)
       ∧ (s.device = .zeroized → exec (.start 1) s = .next { s with startResult := .zeroized })
       ∧ (s.device ≠ .stopped ∧ s.device ≠ .zeroized →
           exec (.start 1) s = .next { s with startResult := .notStopped }))

/-- STOP (R165, R166): outside RUNNING nothing; in RUNNING every RUNNING lane drains as R41 gives, with
its STOPPED returns in the return queue, its unstarted requests out of the FIFO and its read stale, and
the device enters STOPPING, or STOPPED with every lane DISABLED when no lane holds a cell. That the lanes
drain in rising lane number is the model's choice, since R41 says in any order (log entry 28). -/
def Obligations.StopDrainsRunningLanes : Prop :=
  ∀ s : State,
    (s.device ≠ .running → exec (.stop 2) s = .next s)
    ∧ (s.device = .running →
      ∃ t, exec (.stop 2) s = .next t
        ∧ t = { s with
            device := t.device, lanes := t.lanes, returnQueue := t.returnQueue, fifo := t.fifo
            readChannel := t.readChannel }
        ∧ (∀ l,
            { t.lane l with state := .disabled } = { s.lane l with
                state := .disabled
                scanWanted := if (s.lane l).state = .running then false else (s.lane l).scanWanted
                pendingExt := if (s.lane l).state = .running then [] else (s.lane l).pendingExt
                queue := if (s.lane l).state = .running then [] else (s.lane l).queue })
        ∧ ((∀ l, (s.lane l).held = 0) →
            t.device = .stopped ∧ ∀ l, (t.lane l).state = .disabled)
        ∧ ((∃ l, (s.lane l).held ≠ 0) →
            t.device = .stopping
            ∧ ∀ l, (t.lane l).state =
                if (s.lane l).state = .running then
                  (if (s.lane l).held = 0 then .paused else .draining)
                else (s.lane l).state)
        ∧ t.returnQueue = s.returnQueue
            ++ allLanes.flatMap
                (fun l => if (s.lane l).state = .running then drainEntries l s else [])
        ∧ t.fifo = s.fifo.filter
            (fun r => !(decide ((s.lane r.lane).state = .running) && r.phase != .inEngine))
        ∧ (∀ r, s.readChannel = .cell r →
            t.readChannel =
              .cell { r with stale := r.stale || decide ((s.lane r.lane).state = .running) })
        ∧ ((∀ r, s.readChannel ≠ .cell r) → t.readChannel = s.readChannel))

/-- SOFT_RESET is taken in STOPPED, RUNNING, STOPPING and in FAULTED while TAMPER_FAULT is clear; it
clears and keeps what R167 lists and leaves the device in STOPPED; elsewhere it is ignored. -/
def Obligations.SoftResetClearsTraffic : Prop :=
  ∀ s : State,
    ((s.device = .stopped ∨ s.device = .running ∨ s.device = .stopping
        ∨ (s.device = .faulted ∧ s.tamperFault = false)) →
      ∃ t, exec (.softReset 4) s = .next t
        ∧ t = { s with
            device := .stopped
            startResult := if s.startReq = none then s.startResult else .abandoned
            startReq := none
            lanes := Vector.replicate 16 Lane.initial
            fifo := [], returnQueue := [], noticeList := [], noticePending := 0
            engines := Vector.replicate 2 none
            cache := [], takeCounter := 0, lastServed := 15
            readChannel := t.readChannel, writeChannel := t.writeChannel, nvmOp := t.nvmOp }
        ∧ (∀ r, s.readChannel = .cell r → t.readChannel = .cell { r with discarded := true })
        ∧ (∀ a, s.readChannel = .station a → t.readChannel = .station true)
        ∧ (s.readChannel = .free → t.readChannel = .free)
        ∧ t.writeChannel = s.writeChannel.map (fun w => { w with attached := false })
        ∧ (∀ r c, s.commitOp = some (r, c) → t.commitOp = some
            ({ r with op := .commit { c with cell := none } }, { c with cell := none }))
        ∧ (s.commitOp = none → t.nvmOp = s.nvmOp))
    ∧ ((s.device = .loading ∨ s.device = .zeroizing ∨ s.device = .zeroized
        ∨ (s.device = .faulted ∧ s.tamperFault = true)) → exec (.softReset 4) s = .next s)

/-- POST (R8): the whole value is the lane number; SCAN_WANTED is set when the device and the lane are
RUNNING, and every other write is ignored; the register reads as zero. -/
def Obligations.PostSetsScanWanted : Prop :=
  ∀ (v : Word) (s : State),
    (∀ l : LaneNo, v.toNat = l.val → s.device = .running → (s.lane l).state = .running →
      exec (.post v) s = .next { s with
        lanes := s.lanes.set l { s.lane l with scanWanted := true } })
    ∧ (16 ≤ v.toNat → exec (.post v) s = .next s)
    ∧ (s.device ≠ .running → exec (.post v) s = .next s)
    ∧ (∀ l : LaneNo, v.toNat = l.val → (s.lane l).state ≠ .running → exec (.post v) s = .next s)
    ∧ readRegister 0x10 4 s = [0, 0, 0, 0]

/-- A write of 1 to a bit of NOTICE_PENDING clears the bit and sends nothing (R21); a write of 1 to a flag
of ERROR_FLAGS clears it, and the log is emptied exactly when the write clears the flag of the class that the
record holds (R146, R148). A write of 0 leaves a bit as it stands. -/
def Obligations.FlagRegisterWrites : Prop :=
  (∀ (v : Word) (s : State), ∃ t, exec (.noticePendingWrite v) s = .next t
     ∧ t = { s with noticePending := t.noticePending }
     ∧ ∀ i, i < 16 → t.noticePending.getLsbD i = (s.noticePending.getLsbD i && !v.getLsbD i))
  ∧ (∀ (v : Word) (s : State), ∃ t, exec (.errorFlagsWrite v) s = .next t
       ∧ t = { s with errorFlags := t.errorFlags, errorLog := t.errorLog }
       ∧ (∀ i, i < 5 → t.errorFlags.getLsbD i = (s.errorFlags.getLsbD i && !v.getLsbD i))
       ∧ (∀ r, s.errorLog = some r → s.errorFlags.getLsbD (flagBit r.cls) = true →
           v.getLsbD (flagBit r.cls) = true → t.errorLog = none)
       ∧ (∀ r, s.errorLog = some r →
           (s.errorFlags.getLsbD (flagBit r.cls) = false ∨ v.getLsbD (flagBit r.cls) = false) →
           t.errorLog = some r)
       ∧ (s.errorLog = none → t.errorLog = none))

/-- A write to a half of STATION_BASE is stored while CONTROL.LOCK is clear and ignored while it is set
(R158). Writes that the bus interface ignores leave the state as it stands: narrower than 32 bits,
misaligned, beyond the window, to STATUS and GTIME (R157), and to CONTROL with none of its four commands, or
with START and STOP alone (R159). What a 32-bit read of each of the eight registers returns (R157, R160,
R8, R21, R146): LOCK alone in CONTROL; the device state, the start result and the flags of STATUS at their
bits, states and results by the codes of 10.4; the halves of STATION_BASE; 0 in POST; GT; the bits of
NOTICE_PENDING; the flags of ERROR_FLAGS; and 0 at a misaligned offset and beyond the window. A narrower read inside a register returns the bytes it
covers. -/
def Obligations.RegisterWindow : Prop :=
  (∀ (v : Word) (s : State),
     (s.lock = false →
       exec (.stationBaseWrite .lo v) s = .next { s with stationBaseLo := v }
       ∧ exec (.stationBaseWrite .hi v) s = .next { s with stationBaseHi := v })
     ∧ (s.lock = true → ∀ half, exec (.stationBaseWrite half v) s = .next s))
  ∧ (∀ (offset width : Nat) (v : Word) (s : State),
       (width = 1 ∨ width = 2 ∨ (width = 4 ∧ (offset % 4 ≠ 0 ∨ 0x20 ≤ offset ∨ offset = 0x04
         ∨ offset = 0x14
         ∨ (offset = 0x00 ∧ v.getLsbD 0 = v.getLsbD 1 ∧ v.getLsbD 2 = false ∧ v.getLsbD 3 = false)))) →
       exec (.ignoredRegisterWrite offset width v) s = .next s)
  ∧ (∀ s : State, ∃ control status notices flags : Word,
       readRegister 0x00 4 s = leBytes32 control ∧ readRegister 0x04 4 s = leBytes32 status
       ∧ readRegister 0x08 4 s = leBytes32 s.stationBaseLo
       ∧ readRegister 0x0C 4 s = leBytes32 s.stationBaseHi
       ∧ readRegister 0x10 4 s = [0, 0, 0, 0] ∧ readRegister 0x14 4 s = leBytes32 s.gt
       ∧ readRegister 0x18 4 s = leBytes32 notices ∧ readRegister 0x1C 4 s = leBytes32 flags
       ∧ (∀ i, i < 32 → control.getLsbD i = (decide (i = 3) && s.lock))
       ∧ (status.extractLsb' 0 3).toNat = deviceCode s.device
       ∧ (status.extractLsb' 8 4).toNat = startResultCode s.startResult
       ∧ status.getLsbD 16 = s.lanesClamped ∧ status.getLsbD 17 = s.errorNoticeOff
       ∧ status.getLsbD 18 = s.optionDefaulted ∧ status.getLsbD 19 = s.directoryLost
       ∧ status.getLsbD 20 = s.evidenceExhausted ∧ status.getLsbD 21 = s.tamperFault
       ∧ status.getLsbD 22 = s.nvmOp.isSome
       ∧ status.extractLsb' 3 5 = 0 ∧ status.extractLsb' 12 4 = 0 ∧ status.extractLsb' 23 9 = 0
       ∧ (∀ i, i < 32 → notices.getLsbD i = (decide (i < 16) && s.noticePending.getLsbD i))
       ∧ (∀ i, i < 32 → flags.getLsbD i = (decide (i < 5) && s.errorFlags.getLsbD i)))
  ∧ [DeviceState.loading, .stopped, .running, .stopping, .faulted, .zeroizing, .zeroized].map deviceCode
      = List.range 7
  ∧ [StartResult.noStart, .reading, .ok, .badStation, .windowEmpty, .noLanes, .busError, .notStopped,
      .zeroized, .abandoned].map startResultCode = List.range 10
  ∧ (∀ (offset : Nat) (s : State), (offset % 4 ≠ 0 ∨ 0x20 ≤ offset) →
       readRegister offset 4 s = [0, 0, 0, 0])
  ∧ ∀ (offset width i : Nat) (s : State), (width = 1 ∨ width = 2) → offset % 4 + width ≤ 4 → i < width →
       byteAt (readRegister offset width s) i
         = byteAt (readRegister (offset / 4 * 4) 4 s) (offset % 4 + i)

/-! ## Cold reset and tamper -/

/-- What a cold reset leaves (R169, R25, R39, R70, R89, R123, R136, R156); the state after reset meets the
laws that every step keeps. -/
def Obligations.ResetState : Prop :=
  State.reset.device = .loading ∧ State.reset.startResult = .noStart ∧ State.reset.gt = 0
  ∧ State.reset.lock = false ∧ State.reset.stationBaseLo = 0 ∧ State.reset.stationBaseHi = 0
  ∧ State.reset.window = none ∧ State.reset.routes = Routes.quiet
  ∧ State.reset.errorNoticeAddr = none ∧ State.reset.gantryId = none
  ∧ State.reset.errorFlags = 0 ∧ State.reset.errorLog = none
  ∧ State.reset.noticePending = 0 ∧ State.reset.noticeList = [] ∧ State.reset.returnQueue = []
  ∧ State.reset.fifo = [] ∧ State.reset.takeCounter = 0 ∧ State.reset.lastServed = 15
  ∧ State.reset.cache = [] ∧ State.reset.currentDay = 0 ∧ State.reset.transport = none
  ∧ State.reset.dirDirty = false ∧ State.reset.issueCount = 0 ∧ State.reset.nvmOp = none
  ∧ (∀ l, (State.reset.lane l).state = .disabled ∧ (State.reset.lane l).held = 0
      ∧ (State.reset.lane l).cursor = 0 ∧ (State.reset.lane l).returnCount = 0
      ∧ (State.reset.lane l).pendingExt = [] ∧ (State.reset.lane l).queue = []
      ∧ (State.reset.lane l).scanWanted = false)
  ∧ (∀ e, State.reset.engine e = none)
  ∧ (∀ n k, (State.reset.slot n k).state = .empty ∧ (State.reset.slot n k).epoch = 0
      ∧ (State.reset.slot n k).key = none)
  ∧ (∀ n, State.reset.binding n
      = if n = 0 then some { issuer := 0, locked := false, dirty := false } else none)
  ∧ State.reset.load = some { step := .optionRead, stepEnd := 40 }
  ∧ MemoryLaw State.reset ∧ ControlLaw State.reset ∧ HeldLaw State.reset ∧ LaneLaw State.reset
  ∧ DirectoryLaw State.reset ∧ CacheLaw State.reset ∧ ZeroizeRange State.reset
  ∧ SlotLaw State.reset ∧ GenerationLaw State.reset ∧ ServingLaw State.reset

/-- A cold reset with TAMPER released: the reset state with the array kept, cut at the step in flight
(R169, R135); with no operation in flight the array is unchanged. With TAMPER asserted the zeroize
response follows in the same event (R153, R154, R136). What a cut leaves of each step: an erase, its
sector's last word and its mark word erased and nothing outside the sector changed; a word program, a part
of its 0 bits in its word alone; a spoiling program, that and not the commit mark value (R125, R135, R174).
What the cut leaves open is free (log entries 8, 9 and 29), and the model's own fields are kept (log entries
4, 6 and 26). -/
def Obligations.ColdReset : Prop :=
  (∀ s : State, ∃ m i, CutTo s m i
    ∧ (s.tamperPin = false → exec .coldReset s = .next { State.reset with
        pending := s.pending, hostMem := s.hostMem, nvm := m, freeIndex := i })
    ∧ (s.tamperPin = true → exec .coldReset s = .next { State.reset with
        pending := s.pending, hostMem := s.hostMem, nvm := m, freeIndex := i
        tamperPin := true, device := .zeroizing, load := none, errorFlags := 0x10
        errorLog := some
          { cls := .tamper, lane := none, slice := none, slot := none, gt := 0, further := 0 }
        nvmOp := some { op := .zeroize .mark false, startGt := 0, stepEnd := 20 } }))
  ∧ (∀ (m : List Host.Cell) (use : Nat), nvmWf m = true →
      (∀ c sec, ((c.target = .directory ∧ sec = 2) ∨ ∃ n code, c.target = .slice n code ∧ sec = 3 + n.val) →
        (c.step = .erase → ErasePart m (cutArray m use (.commit c)) sec)
        ∧ (∀ k, c.step = .program k →
            ProgramPart m (cutArray m use (.commit c)) sec k (c.image.getD k 0))
        ∧ (∀ k, c.step = .spoil k →
            ProgramPart m (cutArray m use (.commit c)) sec (if sec = 2 then 79 else 71) 0
            ∧ nvmWord (cutArray m use (.commit c)) sec (if sec = 2 then 79 else 71) ≠ 0x6A3C5A96))
      ∧ (∀ k v count, ProgramPart m (cutArray m use (.startCount k v count)) 1 k v)
      ∧ (∀ f, ProgramPart m (cutArray m use (.zeroize .mark f)) 0 2 0
          ∧ ProgramPart m (cutArray m use (.zeroize .finalMark f)) 0 2 0
          ∧ ∀ sec, ErasePart m (cutArray m use (.zeroize (.erase sec) f)) sec))

/-- A tamper assertion in every state that answers it: the TAMPER report, engines aborted, a START and the
load abandoned, the read in flight to be discarded, and, under the action ZEROIZE, keys and cache cleared at
once, the operation in flight cut (log entry 8 for what the cut leaves open) and the zeroize begun with its
mark program (R153, R154, R90, R142); under FAULT_ONLY, key values and KCVs cleared, the slots' other fields
kept, the cache emptied, TAMPER_FAULT set, and the NVM operation in flight goes on (R155, R90). -/
def Obligations.TamperResponses : Prop :=
  (∀ s : State, s.tamperPin = false → s.tamperAction = .zeroize →
     (s.device = .loading ∨ s.device = .stopped ∨ s.device = .running ∨ s.device = .stopping
       ∨ (s.device = .faulted ∧ s.tamperFault = false)) →
     ∃ m i t, CutTo s m i ∧ exec .tamperAssert s = .next t
       ∧ t = { s with
           tamperPin := true, device := .zeroizing, load := none
           errorFlags := s.errorFlags ||| 0x10
           errorLog :=
             (raiseReport { cls := .tamper, lane := none, slice := none, slot := none } s).errorLog
           startResult := if s.startReq = none then s.startResult else .abandoned
           startReq := none, readChannel := discardRead s.readChannel
           engines := Vector.replicate 2 none, cache := []
           slices := t.slices, directory := baseDirectory, dirDirty := false
           currentDay := 0, transport := none, nvm := m, freeIndex := i
           nvmOp := some { op := .zeroize .mark false, startGt := s.gt, stepEnd := s.gt + 20 } }
       ∧ ∀ n k, t.slot n k =
           { state := .empty, info := none, key := none, epoch := (s.slot n k).epoch })
  ∧ (∀ s : State, s.tamperPin = false → s.tamperAction = .faultOnly →
       (s.device = .loading ∨ s.device = .stopped ∨ s.device = .running ∨ s.device = .stopping
         ∨ (s.device = .faulted ∧ s.tamperFault = false)) →
       ∃ t, exec .tamperAssert s = .next t
         ∧ t = { s with
             tamperPin := true, device := .faulted, tamperFault := true, load := none
             errorFlags := s.errorFlags ||| 0x10
             errorLog :=
               (raiseReport { cls := .tamper, lane := none, slice := none, slot := none } s).errorLog
             startResult := if s.startReq = none then s.startResult else .abandoned
             startReq := none, readChannel := discardRead s.readChannel
             engines := Vector.replicate 2 none, cache := [], slices := t.slices }
         ∧ ∀ n k, t.slot n k = { s.slot n k with key := none })

/-- Where a tamper assertion makes no new response: in ZEROIZED it is not acted on and not reported; in
ZEROIZING, and in FAULTED with TAMPER_FAULT, the TAMPER report is made and nothing else changes; an input
already asserted gives no assertion; a release has no effect of its own (R153 to R155). -/
def Obligations.TamperWithoutResponse : Prop :=
  ∀ s : State,
    (s.tamperPin = true → exec .tamperAssert s = .next s)
    ∧ (s.tamperPin = false → s.device = .zeroized →
        exec .tamperAssert s = .next { s with tamperPin := true })
    ∧ (s.tamperPin = false →
        (s.device = .zeroizing ∨ (s.device = .faulted ∧ s.tamperFault = true)) →
        ∃ t, exec .tamperAssert s = .next t
          ∧ t = raiseReport { cls := .tamper, lane := none, slice := none, slot := none }
              { s with tamperPin := true }
          ∧ t = { s with
              tamperPin := true, errorFlags := s.errorFlags ||| 0x10, errorLog := t.errorLog }
          ∧ t.errorLog.isSome = true)
    ∧ exec .tamperRelease s = .next { s with tamperPin := false }

/-! ## The error unit (R146, R147, R150 to R152) -/

/-- The log at the arrival of a report (R147): an empty log or a record of lower severity is written
from the report with further count 0; otherwise the record is kept and its further count rises, to 255
at most. -/
def Obligations.LogRecordsMostSevere : Prop :=
  ∀ (r : Report) (s : State),
    ((s.errorLog = none ∨ ∃ old, s.errorLog = some old ∧ severity old.cls < severity r.cls) →
      (raiseReport r s).errorLog = some
        { cls := r.cls, lane := r.lane, slice := r.slice, slot := r.slot, gt := s.gt, further := 0 })
    ∧ (∀ old, s.errorLog = some old → severity r.cls ≤ severity old.cls →
      (old.further < 255 →
        (raiseReport r s).errorLog = some { old with further := old.further + 1 })
      ∧ (old.further = 255 → (raiseReport r s).errorLog = some old))

/-- A report sets its class's flag and is routed by the codes in force (R146, R150, R151, R152): NONE,
flag and log only; NOTICE, an error notice write on the flag's clear-to-set change unless one of the
class is pending or ERROR_NOTICE_OFF is set; HALT, entry to FAULTED from STOPPED, RUNNING and
STOPPING, with engines aborted, a START abandoned and a read in flight to be discarded when it ends (R25,
R39, R163). The severities of the classes (R144) and their bits in ERROR_FLAGS (10.4). -/
def Obligations.ReportRouting : Prop :=
  (∀ (r : Report) (s t : State), t = raiseReport r s →
    (∀ c, t.errorFlags.getLsbD (flagBit c) = (s.errorFlags.getLsbD (flagBit c) || decide (c = r.cls)))
    ∧ (routeOf s.routes r.cls = .quiet →
        t = { s with errorFlags := t.errorFlags, errorLog := t.errorLog })
    ∧ (routeOf s.routes r.cls = .notice →
        t = { s with
          errorFlags := t.errorFlags, errorLog := t.errorLog
          noticeList :=
            if s.errorFlags.getLsbD (flagBit r.cls) = false ∧ s.errorNoticeOff = false
                ∧ Notice.error r.cls ∉ s.noticeList then
              s.noticeList ++ [.error r.cls]
            else s.noticeList })
    ∧ (routeOf s.routes r.cls = .halt →
        (s.device = .stopped ∨ s.device = .running ∨ s.device = .stopping →
          t = { s with
            errorFlags := t.errorFlags, errorLog := t.errorLog, device := .faulted
            engines := Vector.replicate 2 none
            startResult := if s.startReq = none then s.startResult else .abandoned
            startReq := none, readChannel := discardRead s.readChannel })
        ∧ (s.device ≠ .stopped ∧ s.device ≠ .running ∧ s.device ≠ .stopping →
          t = { s with errorFlags := t.errorFlags, errorLog := t.errorLog })))
  ∧ discardRead .free = .free ∧ (∀ a, discardRead (.station a) = .station true)
  ∧ (∀ x, discardRead (.cell x) = .cell { x with discarded := true })
  ∧ [ErrClass.tamper, .uncorrectedEcc, .nvmFail, .busError, .correctedEcc].map severity = [5, 4, 3, 2, 1]
  ∧ [ErrClass.correctedEcc, .busError, .nvmFail, .uncorrectedEcc, .tamper].map flagBit = [0, 1, 2, 3, 4]

/-! ## START: the station record (R1 to R6) -/

/-- With no other read in flight, the read of an accepted START is issued (R163). The station record's
tests in the order of R1: a failing one ends the START with its result, which is all that changes besides the
end of the read. A bus error ends it with BUS_ERROR and is reported with no lane; the read of an abandoned
START is discarded, and its bus error reported. -/
def Obligations.StationRecordReads : Prop :=
  (∀ (a : Addr) (s : State), s.startReq = some { addr := a, issued := false } →
     s.readChannel = .free →
     exec .stationRecordReadIssue s = .next { s with
       startReq := some { addr := a, issued := true }, readChannel := .station false })
  ∧ (∀ (b : Bytes) (res : StartResult) (s : State), s.readChannel = .station false →
       ((le32 b 0 ≠ 0x4C4B0110 ∧ res = .badStation)
         ∨ (le32 b 0 = 0x4C4B0110 ∧ (le64 b 16).toNat / 4096 < (le64 b 8).toNat / 4096
             ∧ res = .windowEmpty)
         ∨ (le32 b 0 = 0x4C4B0110 ∧ (le64 b 8).toNat / 4096 ≤ (le64 b 16).toNat / 4096
             ∧ (byteAt b 24 = 0 ∨ ∀ l, laneAccepted b s.laneLimit l = false) ∧ res = .noLanes)) →
       exec (.stationRecordReadEnd (.contents b)) s = .next { s with
         readChannel := .free, startReq := none, startResult := res })
  ∧ (∀ s : State,
       (s.readChannel = .station false →
         exec (.stationRecordReadEnd .busError) s = .next
           (raiseReport { cls := .busError, lane := none, slice := none, slot := none }
             { s with readChannel := .free, startReq := none, startResult := .busError }))
       ∧ (s.readChannel = .station true →
         (∀ b, exec (.stationRecordReadEnd (.contents b)) s = .next { s with readChannel := .free })
         ∧ exec (.stationRecordReadEnd .busError) s = .next
           (raiseReport { cls := .busError, lane := none, slice := none, slot := none }
             { s with readChannel := .free })))

/-- The station record whose tests all pass is applied and the device enters RUNNING (R1, R2, R3, R6):
window, routes, error notice address, gantry ID and flags from the header; usable lanes RUNNING from
cell 0 with SCAN_WANTED set; the other lanes DISABLED; NOTICE_PENDING and the notice list emptied.
When a lane record is accepted (R3 to R5): below the lane count in force, a length of 16 or more, a base on a
64-byte boundary, the strip, clamped to 1024 cells, inside the window, and an enabled notice word inside it.
The settings of an accepted lane (R5): length and priority clamped to 1024 and 7, and class SERVICE for the
first two accepted records that carry it. That a lane which is not accepted has settings of zero is the model's
choice (log entry 21). -/
def Obligations.StationRecordApplied : Prop :=
  (∀ (b : Bytes) (s : State), s.readChannel = .station false →
     le32 b 0 = 0x4C4B0110 → (le64 b 8).toNat / 4096 ≤ (le64 b 16).toNat / 4096 →
     byteAt b 24 ≠ 0 → (∃ l, laneAccepted b s.laneLimit l = true) →
     ∃ t, exec (.stationRecordReadEnd (.contents b)) s = .next t
       ∧ t = { s with
           readChannel := .free, startReq := none, startResult := .ok, device := .running
           window := some
             { basePage := (le64 b 8).extractLsb' 12 52, limitPage := (le64 b 16).extractLsb' 12 52 }
           lanesClamped := decide (s.laneLimit < (byteAt b 24).toNat)
           routes :=
             { correctedEcc := routeOfByte (byteAt b 25), uncorrectedEcc := routeOfByte (byteAt b 26)
               nvmFail := routeOfByte (byteAt b 27), busError := routeOfByte (byteAt b 28) }
           errorNoticeAddr := some (le64 b 32), errorNoticeOff := t.errorNoticeOff
           gantryId := some (le32 b 4), lanes := t.lanes, noticePending := 0, noticeList := [] }
       ∧ (t.errorNoticeOff = false ↔
           (le64 b 8).toNat / 4096 * 4096 ≤ (le64 b 32).toNat
           ∧ (le64 b 32).toNat + 3 ≤ (le64 b 16).toNat / 4096 * 4096 + 4095)
       ∧ (∀ l, laneAccepted b s.laneLimit l = true →
           t.lane l = { Lane.initial with
             state := .running, scanWanted := true, config := laneSettings b s.laneLimit l })
       ∧ ∀ l, laneAccepted b s.laneLimit l = false → t.lane l = Lane.initial)
  ∧ (∀ x : Byte, routeOfByte x =
       if x.toNat % 4 = 0 then .quiet else if x.toNat % 4 = 1 then .notice else .halt)
  ∧ (∀ (b : Bytes) (limit : Nat) (l : LaneNo) (off base len first last : Nat),
       off = 64 + 32 * l.val → base = (le64 b off).toNat → len = min (le16 b (off + 8)).toNat 1024 →
       first = (le64 b 8).toNat / 4096 * 4096 → last = (le64 b 16).toNat / 4096 * 4096 + 4095 →
       (laneAccepted b limit l = true ↔
         l.val < (byteAt b 24).toNat ∧ l.val < limit ∧ 16 ≤ len ∧ base % 64 = 0
         ∧ first ≤ base ∧ base + 64 * len ≤ last + 1
         ∧ ((byteAt b (off + 12)).getLsbD 0 = true →
             first ≤ (le64 b (off + 16)).toNat ∧ (le64 b (off + 16)).toNat + 4 ≤ last + 1))
       ∧ laneSettings b limit l =
         { stripBase := le64 b off, stripLen := len
           service := decide (byteAt b (off + 10) = 0x01) && decide
             ((allLanes.filter fun m => decide (m.val < l.val) && laneAccepted b limit m
               && decide (byteAt b (64 + 32 * m.val + 10) = 0x01)).length < 2)
           priority := min (byteAt b (off + 11)).toNat 7
           noticeEnable := (byteAt b (off + 12)).getLsbD 0, noticeAddr := le64 b (off + 16) })

/-! ## Cell reads and takes (R9 to R18) -/

/-- The free read channel serves the first wanting lane after the lane last served, counting upward and
wrapping from 15 to 0, with a read of the cell at its cursor, refused outside the window (R9, R2, R7). That
the held count alone decides, wherever the lane's held cells lie, is log entry 31. -/
def Obligations.CellReadIssueRoundRobin : Prop :=
  ∀ (l : LaneNo) (s : State), s.device = .running → s.readChannel = .free →
    ((s.lane l).state = .running ∧ (s.lane l).scanWanted = true ∧ (s.lane l).held < 8) →
    (∀ m : LaneNo,
      ((s.lane m).state = .running ∧ (s.lane m).scanWanted = true ∧ (s.lane m).held < 8) →
      (l.val + 31 - s.lastServed.val) % 16 ≤ (m.val + 31 - s.lastServed.val) % 16) →
    exec .cellReadIssue s = .next { s with
      lastServed := l
      readChannel := .cell
        { lane := l, pos := (s.lane l).cursor, stale := false, discarded := false
          refused := !windowHolds s.window
            ((s.lane l).config.stripBase.toNat + 64 * (s.lane l).cursor) 64 } }

/-- A host-owned cell stops the scan, and nothing else of the lane changes (R10); the contents of a stale
or discarded read are thrown away (R12, R25). A cell read that ends with a bus error, by the bus's report or
by the window's refusal, is reported with its lane; it halts a RUNNING lane, and a stale one a DRAINING lane;
a discarded read changes no lane (R2, R12, R22, R25). That the halt comes before the report and its route is
log entry 11. -/
def Obligations.CellReadEndsWithoutTake : Prop :=
  (∀ (b : Bytes) (s : State),
     (∀ l pos, Reading l pos s → byteAt b 0 ≠ 0x01 →
       exec (.cellReadEnd (.contents b)) s = .next { s with
         readChannel := .free, lanes := s.lanes.set l { s.lane l with scanWanted := false } })
     ∧ (∀ r, s.readChannel = .cell r → r.refused = false →
         (r.stale = true ∨ r.discarded = true ∨ s.frozen = true) →
         exec (.cellReadEnd (.contents b)) s = .next { s with readChannel := .free }))
  ∧ (∀ (x : ReadEnd) (r : CellRead) (s : State), s.readChannel = .cell r →
       (x = .busError ∨ r.refused = true) →
       ((r.discarded = true ∨ s.frozen = true) →
         exec (.cellReadEnd x) s = .next
           (raiseReport (busReport (some r.lane)) { s with readChannel := .free }))
       ∧ (r.discarded = false → s.frozen = false →
         (((r.stale = false ∧ (s.lane r.lane).state = .running) ∨ (s.lane r.lane).state = .draining) →
           exec (.cellReadEnd x) s = .next
             (raiseReport (busReport (some r.lane)) (haltLane r.lane { s with readChannel := .free })))
         ∧ ((r.stale = true ∧ (s.lane r.lane).state ≠ .draining) →
           exec (.cellReadEnd x) s = .next
             (raiseReport (busReport (some r.lane)) { s with readChannel := .free }))))

/-- The take of an EXT cell, of a service cell and of a cell of unknown KIND (R11, R13, R15, R16, R18):
the cell is held, the cursor advances, and the take number is used; an EXT joins fewer than two pending
cells, and otherwise, as an unknown cell always, it is returned MALFORMED with the cells pending, its bytes
as read; a service cell is returned MALFORMED with pending cells, NOT_PERMITTED on an ORDINARY lane, and joins
the service FIFO on a SERVICE lane. The twelve service kinds have the KIND codes 0x10 to 0x1B (10.1). -/
def Obligations.TakeExtServiceUnknown : Prop :=
  (∀ (b : Bytes) (l : LaneNo) (pos : Nat) (s : State), Reading l pos s → byteAt b 0 = 0x01 →
     (byteAt b 1 = 0x02 ∧ (s.lane l).pendingExt.length < 2 →
       exec (.cellReadEnd (.contents b)) s = .next { s with
         readChannel := .free, takeCounter := s.takeCounter + 1
         lanes := s.lanes.set l { takenLane (s.lane l) with
           pendingExt := (s.lane l).pendingExt ++ [{ pos := pos, bytes := b }] } })
     ∧ ((byteAt b 1 = 0x02 ∧ 2 ≤ (s.lane l).pendingExt.length)
         ∨ ((byteAt b 1).toNat ≠ 0x01 ∧ (byteAt b 1).toNat ≠ 0x02
             ∧ ((byteAt b 1).toNat < 0x10 ∨ 0x1B < (byteAt b 1).toNat)) →
       exec (.cellReadEnd (.contents b)) s = .next { s with
         readChannel := .free, takeCounter := s.takeCounter + 1
         lanes := s.lanes.set l { takenLane (s.lane l) with pendingExt := [] }
         returnQueue := s.returnQueue ++
           [{ lane := l, cells := (s.lane l).pendingExt ++ [{ pos := pos, bytes := b }]
              status := .malformed, result := bytesAt b 36 28, firstDone := false }] }))
  ∧ (∀ (b : Bytes) (l : LaneNo) (pos : Nat) (kind : ServiceKind) (s : State), Reading l pos s →
       byteAt b 0 = 0x01 → serviceKindOf (byteAt b 1) = some kind →
       ((s.lane l).pendingExt ≠ [] →
         exec (.cellReadEnd (.contents b)) s = .next { s with
           readChannel := .free, takeCounter := s.takeCounter + 1
           lanes := s.lanes.set l { takenLane (s.lane l) with pendingExt := [] }
           returnQueue := s.returnQueue ++
             [{ lane := l, cells := (s.lane l).pendingExt ++ [{ pos := pos, bytes := b }]
                status := .malformed, result := bytesAt b 36 28, firstDone := false }] })
       ∧ ((s.lane l).pendingExt = [] → (s.lane l).config.service = false →
         exec (.cellReadEnd (.contents b)) s = .next { s with
           readChannel := .free, takeCounter := s.takeCounter + 1
           lanes := s.lanes.set l (takenLane (s.lane l))
           returnQueue := s.returnQueue ++
             [{ lane := l, cells := [{ pos := pos, bytes := b }]
                status := .notPermitted, result := bytesAt b 36 28, firstDone := false }] })
       ∧ ((s.lane l).pendingExt = [] → (s.lane l).config.service = true →
         exec (.cellReadEnd (.contents b)) s = .next { s with
           readChannel := .free, takeCounter := s.takeCounter + 1
           lanes := s.lanes.set l (takenLane (s.lane l))
           fifo := s.fifo ++
             [{ lane := l, cell := { pos := pos, bytes := b }, take := s.takeCounter, kind := kind
                phase := .waiting }] }))
  ∧ ((List.range 12).map fun i => serviceKindOf (BitVec.ofNat 8 (0x10 + i))) =
      [some .issuerAdd, some .issuerRemove, some .issuerLock, some .keyStage, some .keyRevoke,
        some .keyErase, some .setDay, some .transportReplace, some .commit, some .logRead,
        some .laneStop, some .laneResume]
  ∧ ∀ x : Byte, (x.toNat < 0x10 ∨ 0x1B < x.toNat) → serviceKindOf x = none

/-- The take of a PASS cell (R11, R14, R27): it closes its chain; a malformed request is returned
MALFORMED; one whose deadline is not ahead is returned LATE; another joins its lane's queue, with a
deadline beyond the horizon clamped to it. -/
def Obligations.TakePass : Prop :=
  ∀ (b : Bytes) (l : LaneNo) (pos : Nat) (r : PassRequest) (s : State), Reading l pos s →
    byteAt b 0 = 0x01 → byteAt b 1 = 0x01 →
    r = passRequestOf l (s.lane l).pendingExt { pos := pos, bytes := b } s.takeCounter →
    (((byteAt b 6).toNat ≠ (s.lane l).pendingExt.length ∨ 2 < (byteAt b 6).toNat
        ∨ 56 * (byteAt b 6).toNat < (byteAt b 7).toNat + (byteAt b 8).toNat
        ∨ 96 < (byteAt b 7).toNat ∨ 32 < (byteAt b 8).toNat) →
      exec (.cellReadEnd (.contents b)) s = .next { s with
        readChannel := .free, takeCounter := s.takeCounter + 1
        lanes := s.lanes.set l { takenLane (s.lane l) with pendingExt := [] }
        returnQueue := s.returnQueue ++ [notRunEntry r .malformed s.gt] })
    ∧ ((byteAt b 6).toNat = (s.lane l).pendingExt.length ∧ (byteAt b 6).toNat ≤ 2
        ∧ (byteAt b 7).toNat + (byteAt b 8).toNat ≤ 56 * (byteAt b 6).toNat
        ∧ (byteAt b 7).toNat ≤ 96 ∧ (byteAt b 8).toNat ≤ 32 →
      ((r.deadline - s.gt).toInt ≤ 0 →
        exec (.cellReadEnd (.contents b)) s = .next { s with
          readChannel := .free, takeCounter := s.takeCounter + 1
          lanes := s.lanes.set l { takenLane (s.lane l) with pendingExt := [] }
          returnQueue := s.returnQueue ++ [notRunEntry r .late s.gt] })
      ∧ (0 < (r.deadline - s.gt).toInt ∧ (r.deadline - s.gt).toInt ≤ 1000000 →
        exec (.cellReadEnd (.contents b)) s = .next { s with
          readChannel := .free, takeCounter := s.takeCounter + 1
          lanes := s.lanes.set l { takenLane (s.lane l) with
            pendingExt := [], queue := (s.lane l).queue ++ [r] } })
      ∧ (1000000 < (r.deadline - s.gt).toInt →
        exec (.cellReadEnd (.contents b)) s = .next { s with
          readChannel := .free, takeCounter := s.takeCounter + 1
          lanes := s.lanes.set l { takenLane (s.lane l) with
            pendingExt := []
            queue := (s.lane l).queue ++
              [{ r with deadline := s.gt + 1000000, deadlineClamped := true }] } }))

/-- The halt of a lane (R22): HALTED, SCAN_WANTED clear, and its pending cells, queued requests, unstarted
service requests and return entries dropped, each dropped cell leaving the held count; a read of the lane
becomes stale, a return write of it loses its entry, and no other lane changes. A return entry goes to the end
of the return queue; for a HALTED lane it is not made and its cells are dropped (R19). In STOPPING a drop that
leaves no lane with a held cell takes the device to STOPPED, with every lane DISABLED (R166). -/
def Obligations.HaltedLane : Prop :=
  (∀ (l : LaneNo) (s : State) (drops : Nat),
     drops = (s.lane l).pendingExt.length + ((s.lane l).queue.map fun r => r.cells.length).sum
       + (s.fifo.filter fun r => r.lane == l && r.phase != .inEngine).length
       + ((s.returnQueue.filter fun e => e.lane == l).map fun e => e.cells.length).sum →
     ∃ t, haltLane l s = t
       ∧ t = { s with
           device := t.device, lanes := t.lanes
           fifo := s.fifo.filter (fun r => !(r.lane == l && r.phase != .inEngine))
           returnQueue := s.returnQueue.filter (fun e => e.lane != l)
           readChannel := t.readChannel, writeChannel := t.writeChannel }
       ∧ ((s.device ≠ .stopping ∨ drops < (s.lane l).held ∨ ∃ m, m ≠ l ∧ (s.lane m).held ≠ 0) →
           t.device = s.device
           ∧ t.lanes = s.lanes.set l { s.lane l with
               state := .halted, scanWanted := false, pendingExt := [], queue := []
               held := (s.lane l).held - drops })
       ∧ (s.device = .stopping → (s.lane l).held ≤ drops → (∀ m, m ≠ l → (s.lane m).held = 0) →
           t.device = .stopped
           ∧ t.lane l = { s.lane l with
               state := .disabled, scanWanted := false, pendingExt := [], queue := [], held := 0 }
           ∧ ∀ m, m ≠ l → t.lane m = { s.lane m with state := .disabled })
       ∧ (∀ r, s.readChannel = .cell r →
           t.readChannel = .cell { r with stale := r.stale || r.lane == l })
       ∧ ((∀ r, s.readChannel ≠ .cell r) → t.readChannel = s.readChannel)
       ∧ (∀ w, s.writeChannel = some w → t.writeChannel =
           some { w with attached := w.attached && !(w.lane == some l) })
       ∧ (s.writeChannel = none → t.writeChannel = none))
  ∧ (∀ (e : ReturnEntry) (s : State),
       ((s.lane e.lane).state ≠ .halted →
         makeEntry e s = { s with returnQueue := s.returnQueue ++ [e] })
       ∧ ((s.lane e.lane).state = .halted →
         ((s.device ≠ .stopping ∨ e.cells.length < (s.lane e.lane).held
             ∨ ∃ m, m ≠ e.lane ∧ (s.lane m).held ≠ 0) →
           makeEntry e s = { s with
             lanes := s.lanes.set e.lane
               { s.lane e.lane with held := (s.lane e.lane).held - e.cells.length } })
         ∧ (s.device = .stopping → (s.lane e.lane).held ≤ e.cells.length →
             (∀ m, m ≠ e.lane → (s.lane m).held = 0) →
           ∃ t, makeEntry e s = t ∧ t = { s with device := .stopped, lanes := t.lanes }
             ∧ ∀ m, t.lane m = { s.lane m with state := .disabled, held := 0 })))

/-- DEADLINE_EXPIRY (R29): a request still queued is removed and returned LATE at its deadline; one that
has left the queue is not touched, and in a frozen device the expiry is not acted on (R28). That GT runs
on to a deadline still ahead is the model's choice (log entry 2). -/
def Obligations.DeadlineExpiryReturnsLate : Prop :=
  ∀ (l : LaneNo) (take : Word) (s : State),
    (s.frozen = true → exec (.deadlineExpiry l take) s = .next s)
    ∧ ((∀ r ∈ (s.lane l).queue, r.take ≠ take) → exec (.deadlineExpiry l take) s = .next s)
    ∧ (∀ r before after', s.frozen = false → (s.lane l).queue = before ++ r :: after' →
        r.take = take → r.lane = l → (∀ q ∈ before, q.take ≠ take) →
        (s.lane l).state ≠ .halted → 0 ≤ (r.deadline - s.gt).toInt →
        exec (.deadlineExpiry l take) s = .next { s with
          gt := r.deadline
          lanes := s.lanes.set l { s.lane l with queue := before ++ after' }
          returnQueue := s.returnQueue ++ [notRunEntry r .late r.deadline] })

/-- The result areas of pass requests: returned without running (R19, R170), and of one that ran (R64, R65):
every field at its place, the flags each at its bit, and zeros for what was not produced. STATUS of a request
that ran is REDUCED in mode REDUCED and OK in FULL and KEYLESS (R63). The codes of STATUS, of verdicts and
modes, of slot states and of lane states (10.2). -/
def Obligations.PassResultAreas : Prop :=
  (∀ (r : PassRequest) (st : Status) (now : Word),
     notRunEntry r st now =
       { lane := r.lane, cells := r.cells, status := st, firstDone := false
         result := [0xFF, 0xFF, if r.deadlineClamped then 0x08 else 0x00, 0xFF]
           ++ List.replicate 20 0x00
           ++ [now.extractLsb' 0 8, now.extractLsb' 8 8, now.extractLsb' 16 8, now.extractLsb' 24 8] })
  ∧ (∀ (w : PassWork) (v : Verdict) (now : Word), w.verdict = some v →
       (runArea w now).length = 28
       ∧ byteAt (runArea w now) 0 = verdictCode v ∧ byteAt (runArea w now) 1 = modeCode w.mode
       ∧ (byteAt (runArea w now) 2).getLsbD 0 = w.staleGen
       ∧ (byteAt (runArea w now) 2).getLsbD 1 = w.serial.isNone
       ∧ (byteAt (runArea w now) 2).getLsbD 2 = w.cacheHit
       ∧ (byteAt (runArea w now) 2).getLsbD 3 = w.request.deadlineClamped
       ∧ (byteAt (runArea w now) 2).getLsbD 4 = w.eccCorrected
       ∧ (byteAt (runArea w now) 2).extractLsb' 5 3 = 0
       ∧ byteAt (runArea w now) 3 = w.newestGen
       ∧ (∀ i, i < 8 → byteAt (runArea w now) (4 + i) = byteAt (w.wbAuth.getD []) i)
       ∧ bytesAt (runArea w now) 12 4 = leBytes32 (w.serial.getD 0)
       ∧ (∀ i, i < 8 → byteAt (runArea w now) (16 + i) = byteAt (w.evMac.getD []) i)
       ∧ bytesAt (runArea w now) 24 4 = leBytes32 now)
  ∧ ranStatus .full = .ok ∧ ranStatus .reduced = .reduced ∧ ranStatus .keyless = .ok
  ∧ [Status.ok, .reduced, .late, .stopped, .malformed, .notPermitted, .busy, .locked, .noIssuer,
      .issuerExists, .noSlice, .noSlot, .genOrder, .wrongState, .wrapCheck, .dayBackward, .nvmFail,
      .noTransport].map statusCode = (List.range 18).map (BitVec.ofNat 8)
  ∧ [Verdict.accept, .rejectAuth, .unknownIssuer, .unknownKey, .keyStaged, .keyExpired, .keyRevoked,
      .keyFault].map verdictCode = [1, 2, 3, 4, 5, 6, 7, 8]
  ∧ [Mode.full, .reduced, .keyless].map modeCode = [1, 2, 3]
  ∧ [SlotState.empty, .staged, .active, .retiring, .expired, .revoked, .faulty].map slotStateCode
      = [0, 1, 2, 3, 4, 5, 6]
  ∧ [LaneState.disabled, .running, .draining, .paused, .halted].map laneStateCode = [0, 1, 2, 3, 4]

/-! ## Returns and notices (R19 to R24) -/

/-- The free write channel takes the oldest pending notice write, and otherwise, in RUNNING and
STOPPING, the next write of the oldest return entry: bytes 2..63 of its present cell, then OWN (R20, R21,
R151, R170). Each is refused when a byte lies outside the window (R2). -/
def Obligations.WriteChannelIssue : Prop :=
  ∀ s : State, s.writeChannel = none →
    (s.device = .stopped ∨ s.device = .running ∨ s.device = .stopping) →
    (∀ l rest, s.noticeList = .lane l :: rest →
      exec .writeChannelIssue s = .next { s with
        noticeList := rest
        writeChannel := some
          { kind := .notice, lane := some l, addr := (s.lane l).config.noticeAddr
            data := [BitVec.ofNat 8 l.val, 0, (s.lane l).returnCount.extractLsb' 0 8,
              (s.lane l).returnCount.extractLsb' 8 8]
            refused := !windowHolds s.window (s.lane l).config.noticeAddr.toNat 4
            attached := false } })
    ∧ (∀ c a rest, s.noticeList = .error c :: rest → s.errorNoticeAddr = some a →
      exec .writeChannelIssue s = .next { s with
        noticeList := rest
        writeChannel := some
          { kind := .errorNotice, lane := none, addr := a
            data := [BitVec.ofNat 8 (severity c), 0, 0, 0]
            refused := !windowHolds s.window a.toNat 4, attached := false } })
    ∧ (∀ e c cs rest, s.noticeList = [] → s.device ≠ .stopped → s.returnQueue = e :: rest →
        e.cells = c :: cs → e.firstDone = false → e.result.length = 28 →
      ∃ w, exec .writeChannelIssue s = .next { s with writeChannel := some w }
        ∧ w.kind = .first ∧ w.lane = some e.lane ∧ w.attached = true
        ∧ w.addr = BitVec.ofNat 64 ((s.lane e.lane).config.stripBase.toNat + 64 * c.pos + 2)
        ∧ w.data = statusCode e.status :: (bytesAt c.bytes 3 33
            ++ if cs = [] then e.result else bytesAt c.bytes 36 28)
        ∧ w.refused = !windowHolds s.window
            ((s.lane e.lane).config.stripBase.toNat + 64 * c.pos + 2) 62)
    ∧ (∀ e c cs rest, s.noticeList = [] → s.device ≠ .stopped → s.returnQueue = e :: rest →
        e.cells = c :: cs → e.firstDone = true →
      exec .writeChannelIssue s = .next { s with
        writeChannel := some
          { kind := .own, lane := some e.lane
            addr := BitVec.ofNat 64 ((s.lane e.lane).config.stripBase.toNat + 64 * c.pos)
            data := [0x00]
            refused := !windowHolds s.window
              ((s.lane e.lane).config.stripBase.toNat + 64 * c.pos) 1
            attached := true } })

/-- The end of the OWN write (R20, R21): OWN stands in host memory, the cell is returned and its lane's held
count falls by 1; with the entry's last cell the entry leaves the queue, the return count rises modulo 65536
and the lane's notice is raised from a clear bit. A write whose entry is gone returns nothing (R22). The last
held cell of the device returned in STOPPING takes it to STOPPED with every lane DISABLED (R166). -/
def Obligations.OwnWriteReturnsCell : Prop :=
  ∀ (w : BusWrite) (s : State), s.writeChannel = some w → w.kind = .own → w.refused = false →
    ∃ t, exec (.returnOwnWriteEnd .success) s = .next t
      ∧ (∀ a, memGet t.hostMem a =
          if w.addr.toNat ≤ a ∧ a < w.addr.toNat + w.data.length then
            some (byteAt w.data (a - w.addr.toNat))
          else memGet s.hostMem a)
      ∧ (w.attached = false → t = { s with writeChannel := none, hostMem := t.hostMem })
      ∧ (∀ e c c' cs rest, w.attached = true → s.returnQueue = e :: rest → e.cells = c :: c' :: cs →
          1 < (s.lane e.lane).held →
          t = { s with
            writeChannel := none, hostMem := t.hostMem
            returnQueue := { e with cells := c' :: cs, firstDone := false } :: rest
            lanes := s.lanes.set e.lane
              { s.lane e.lane with held := (s.lane e.lane).held - 1 } })
      ∧ (∀ e c rest, w.attached = true → s.returnQueue = e :: rest → e.cells = [c] →
          t = { s with
            writeChannel := none, hostMem := t.hostMem, returnQueue := rest
            device := t.device, lanes := t.lanes
            noticePending := t.noticePending, noticeList := t.noticeList }
          ∧ ((s.device ≠ .stopping ∨ 1 < (s.lane e.lane).held
                ∨ ∃ m, m ≠ e.lane ∧ (s.lane m).held ≠ 0) →
              t.device = s.device
              ∧ t.lanes = s.lanes.set e.lane
                { s.lane e.lane with
                  held := (s.lane e.lane).held - 1
                  returnCount := (s.lane e.lane).returnCount + 1
                  state :=
                    if s.frozen = false ∧ (s.lane e.lane).state = .draining
                        ∧ (s.lane e.lane).held ≤ 1 then .paused
                    else (s.lane e.lane).state })
          ∧ (s.device = .stopping → (s.lane e.lane).held ≤ 1 →
              (∀ m, m ≠ e.lane → (s.lane m).held = 0) →
              t.device = .stopped
              ∧ t.lane e.lane = { s.lane e.lane with
                  state := .disabled, held := 0
                  returnCount := (s.lane e.lane).returnCount + 1 }
              ∧ ∀ m, m ≠ e.lane → t.lane m = { s.lane m with state := .disabled })
          ∧ (((s.lane e.lane).config.noticeEnable = false
                ∨ s.noticePending.getLsbD e.lane.val = true) →
              t.noticePending = s.noticePending ∧ t.noticeList = s.noticeList)
          ∧ ((s.lane e.lane).config.noticeEnable = true →
              s.noticePending.getLsbD e.lane.val = false →
              (∀ i, i < 16 → t.noticePending.getLsbD i
                = (s.noticePending.getLsbD i || decide (i = e.lane.val)))
              ∧ t.noticeList = if Notice.lane e.lane ∈ s.noticeList then s.noticeList
                  else s.noticeList ++ [.lane e.lane]))

/-- A return write that fails, or that the window refuses, writes nothing, halts its RUNNING or DRAINING
lane with the drops of R22 and is reported; one whose entry is gone, or in a frozen device, is reported
only (R2, R22, R23, R25). That the halt comes before the report and its route is log entry 11. -/
def Obligations.ReturnWriteFails : Prop :=
  ∀ (x : BusEnd) (c : Instr) (w : BusWrite) (l : LaneNo) (s : State), s.writeChannel = some w →
    ((w.kind = .first ∧ c = .returnFirstWriteEnd x) ∨ (w.kind = .own ∧ c = .returnOwnWriteEnd x)) →
    (x = .busError ∨ w.refused = true) → w.lane = some l →
    ((w.attached = true ∧ s.frozen = false
        ∧ ((s.lane l).state = .running ∨ (s.lane l).state = .draining)) →
      exec c s = .next
        (raiseReport (busReport (some l)) (haltLane l { s with writeChannel := none })))
    ∧ ((w.attached = false ∨ s.frozen = true) →
      exec c s = .next (raiseReport (busReport (some l)) { s with writeChannel := none }))

/-- The end of a cell's first write (R20): with success, its bytes and no others stand in host memory and
the OWN write is next; the held count does not fall.
The end of a notice write and of an error notice write: with success its word stands in host memory;
with a bus error it is reported, with the lane's number or none, and no lane is halted (R24, R151). -/
def Obligations.FirstAndNoticeWritesEnd : Prop :=
  (∀ (w : BusWrite) (e : ReturnEntry) (rest : List ReturnEntry) (s : State),
     s.writeChannel = some w → w.kind = .first → w.refused = false →
     ∃ t, exec (.returnFirstWriteEnd .success) s = .next t
       ∧ t = { s with
           writeChannel := none, hostMem := t.hostMem, returnQueue := t.returnQueue }
       ∧ (w.attached = true → s.returnQueue = e :: rest →
           t.returnQueue = { e with firstDone := true } :: rest)
       ∧ (w.attached = false → t.returnQueue = s.returnQueue)
       ∧ ∀ a, memGet t.hostMem a =
           if w.addr.toNat ≤ a ∧ a < w.addr.toNat + w.data.length then
             some (byteAt w.data (a - w.addr.toNat))
           else memGet s.hostMem a)
  ∧ (∀ (w : BusWrite) (c : BusEnd → Instr) (s : State), s.writeChannel = some w →
       ((w.kind = .notice ∧ c = .noticeWriteEnd) ∨ (w.kind = .errorNotice ∧ c = .errorNoticeWriteEnd)) →
       (w.refused = false → ∃ t, exec (c .success) s = .next t
         ∧ t = { s with writeChannel := none, hostMem := t.hostMem }
         ∧ ∀ a, memGet t.hostMem a =
             if w.addr.toNat ≤ a ∧ a < w.addr.toNat + w.data.length then
               some (byteAt w.data (a - w.addr.toNat))
             else memGet s.hostMem a)
       ∧ exec (c .busError) s = .next
           (raiseReport { cls := .busError, lane := w.lane, slice := none, slot := none }
             { s with writeChannel := none })
       ∧ (w.refused = true → exec (c .success) s = exec (c .busError) s))

/-! ## Dispatch (R30 to R36, R45 to R53) -/

/-- The arbiter hands engine 0 out first, engine 1 only with an engine count of 2, and chooses the queued
request with the nearest deadline, then by priority, lane and take (R30 to R32). With no pass request queued,
the engine goes to a ready FIFO head, captures the transport key, the wrapped key and the KCV, and works for 2
blocks (R32, R38, R93). -/
def Obligations.ArbiterChoice : Prop :=
  (∀ (e : EngineNo) (r : PassRequest) (s : State), HandedOut e s → Chosen r s →
     exec .dispatch s = .next (dispatchRequest e r s))
  ∧ (∀ (e : EngineNo) (h : ServiceRequest) (rest : List ServiceRequest) (k : TransportKey) (s : State),
       HandedOut e s → (∀ l, (s.lane l).queue = []) → s.fifo = h :: rest → h.phase = .ready →
       s.transport = some k →
       exec .dispatch s = .next { s with
         fifo := { h with phase := .inEngine } :: rest
         engines := s.engines.set e (some (.service
           { transportKey := k.key, wrapped := bytesAt h.cell.bytes 20 16
             kcv := bytesAt h.cell.bytes 14 3, workEnd := s.gt + 10 })) })

/-- The lookup outcomes (R46, R47): an issuer not found or 0x0000, no matching slot with and without a
FAULTY slot that has no generation, and a matching slot in each state. -/
def Obligations.LookupVerdicts : Prop :=
  ∀ (r : PassRequest) (s : State),
    ((r.issuer = 0 ∨ Unbound s r.issuer) → lookup s r = .noKey .unknownIssuer)
    ∧ (∀ n, r.issuer ≠ 0 → BoundTo s r.issuer n →
      (CarriedByNone s n r.gen →
        ((∀ k, ¬ ((s.slot n k).state = .faulty ∧ (s.slot n k).info = none)) →
          lookup s r = .noKey .unknownKey)
        ∧ ((∃ k, (s.slot n k).state = .faulty ∧ (s.slot n k).info = none) →
          lookup s r = .noKey .keyFault))
      ∧ (∀ k, Carries s n k r.gen →
        ((s.slot n k).state = .staged → lookup s r = .noKey .keyStaged)
        ∧ ((s.slot n k).state = .expired → lookup s r = .noKey .keyExpired)
        ∧ ((s.slot n k).state = .revoked → lookup s r = .noKey .keyRevoked)
        ∧ ((s.slot n k).state = .faulty → lookup s r = .noKey .keyFault)
        ∧ ((s.slot n k).state = .active ∨ (s.slot n k).state = .retiring →
          lookup s r = .bearing { slice := n, slot := k, epoch := (s.slot n k).epoch })))

/-- A key-bearing dispatch (R33 to R36, R45, R48 to R51, R53, R114): the keys come from the cache entry that
the probe hits, which moves to rank 1, or, when no entry meets the conditions of a hit, from a master-key
read, which reports an error that it corrects; NEWEST_GEN and STALE_GEN come from the issuer's slice, and the
evidence key from the reads of slice 0, each of which reports an error that it finds; the mode is the one
whose cost in blocks of 5 µs the slack admits; the request takes the engine and, with evidence, the next
serial, or is returned LATE with neither. The reports of the reads act after the dispatch (log entry 11). -/
def Obligations.DispatchKeyBearing : Prop :=
  ∀ (e : EngineNo) (r : PassRequest) (ref : SlotRef) (hit fixed evFixed : Bool) (keys : KeyMaterial)
    (cache' : List CacheEntry) (reports evReports : List Report) (ev : Option Bytes)
    (newest : Option Byte) (base first : Nat) (s x : State),
    HandedOut e s → Chosen r s → (s.lane r.lane).state ≠ .halted → lookup s r = .bearing ref →
    ((hit = false ∧ cache' = s.cache ∧ ProbeMisses s r ref
        ∧ ∃ c, (s.slot ref.slice ref.slot).key = some c ∧ keys = .master c.value
          ∧ ((c.ecc = .clean ∧ fixed = false ∧ reports = [])
            ∨ (c.ecc = .correctable ∧ fixed = true
              ∧ reports = [eccReport .correctedEcc r.lane ref.slice ref.slot])))
      ∨ (hit = true ∧ fixed = false ∧ reports = []
        ∧ ∃ y, ProbeHits s r ref y ∧ cache' = y :: s.cache.erase y
          ∧ keys = .tag y.kAuth y.kWrite)) →
    NewestActive s ref.slice newest →
    EvidenceDecided r { s with lanes := lanesWithout r s, cache := cache' } ev evFixed evReports x →
    first = (if hit then 1 + (8 + r.plen + 1 + 15) / 16 else 2) →
    base = (if hit then 0 else 2) + (1 + (8 + r.plen + 1 + 15) / 16) + evidencePart ev →
    ((5 * (base + (1 + (8 + r.wlen + 1 + 15) / 16)) : Nat) ≤ (r.deadline - s.gt).toInt →
      exec .dispatch s = .next (raiseReports (reports ++ evReports) { x with
        engines := s.engines.set e (some (.pass
          { request := r, dispatchGt := s.gt, mode := .full, verdict := none, ref := some ref
            keys := keys, evidenceKey := ev
            serial := if ev.isSome then some s.nextSerial else none
            newestGen := newest.getD 0xFF, staleGen := decide (newest ≠ some r.gen)
            cacheHit := hit, eccCorrected := fixed || evFixed
            stages := (if hit then [] else [Stage.derive]) ++ [.verify, .write]
              ++ (if ev.isSome then [.evidence] else [])
            stageBlocks := first, stageEnd := s.gt + BitVec.ofNat 32 (5 * first)
            wbAuth := none, evMac := none }))
        issueCount := issueAfter s ev, evidenceExhausted := exhaustedAfter s ev }))
    ∧ ((r.deadline - s.gt).toInt < (5 * (base + (1 + (8 + r.wlen + 1 + 15) / 16)) : Nat) →
        r.allowReduced = true → (5 * base : Nat) ≤ (r.deadline - s.gt).toInt →
      exec .dispatch s = .next (raiseReports (reports ++ evReports) { x with
        engines := s.engines.set e (some (.pass
          { request := r, dispatchGt := s.gt, mode := .reduced, verdict := none, ref := some ref
            keys := keys, evidenceKey := ev
            serial := if ev.isSome then some s.nextSerial else none
            newestGen := newest.getD 0xFF, staleGen := decide (newest ≠ some r.gen)
            cacheHit := hit, eccCorrected := fixed || evFixed
            stages := (if hit then [] else [Stage.derive]) ++ [.verify]
              ++ (if ev.isSome then [.evidence] else [])
            stageBlocks := first, stageEnd := s.gt + BitVec.ofNat 32 (5 * first)
            wbAuth := none, evMac := none }))
        issueCount := issueAfter s ev, evidenceExhausted := exhaustedAfter s ev }))
    ∧ ((r.deadline - s.gt).toInt < (5 * (base + (1 + (8 + r.wlen + 1 + 15) / 16)) : Nat) →
        (r.allowReduced = false ∨ (r.deadline - s.gt).toInt < (5 * base : Nat)) →
      exec .dispatch s = .next (raiseReports (reports ++ evReports)
        { x with returnQueue := s.returnQueue ++ [notRunEntry r .late s.gt] }))

/-- A no-key dispatch, by the lookup or by a master-key read that fails (R34 to R36, R48 to R51): KEYLESS with
the EVIDENCE stage alone when evidence is available and 15 µs are left; completed at once with STATUS OK when
it is not available and the deadline has not passed; LATE otherwise. NEWEST_GEN comes from the issuer's slice
as the master-key read leaves it, and STALE_GEN is clear. The reports of the reads act after the dispatch (log
entry 11). -/
def Obligations.DispatchNoKey : Prop :=
  ∀ (e : EngineNo) (r : PassRequest) (v : Verdict) (newest : Byte) (evFixed : Bool)
    (reports evReports : List Report) (ev : Option Bytes) (s u x : State),
    HandedOut e s → Chosen r s → (s.lane r.lane).state ≠ .halted →
    ((lookup s r = .noKey v ∧ reports = [] ∧ u = { s with lanes := lanesWithout r s })
      ∨ (∃ ref c, lookup s r = .bearing ref ∧ ProbeMisses s r ref
        ∧ (s.slot ref.slice ref.slot).key = some c ∧ c.ecc = .uncorrectable ∧ v = .keyFault
        ∧ reports = [eccReport .uncorrectedEcc r.lane ref.slice ref.slot]
        ∧ u = makeFaulty ref.slice ref.slot { s with lanes := lanesWithout r s })) →
    NewestGen u r newest → EvidenceDecided r u ev evFixed evReports x →
    (∀ key, ev = some key →
      (15 ≤ (r.deadline - s.gt).toInt →
        exec .dispatch s = .next (raiseReports (reports ++ evReports) { x with
          engines := s.engines.set e (some (.pass
            { request := r, dispatchGt := s.gt, mode := .keyless, verdict := some v, ref := none
              keys := .absent, evidenceKey := some key, serial := some s.nextSerial
              newestGen := newest, staleGen := false, cacheHit := false, eccCorrected := evFixed
              stages := [.evidence], stageBlocks := 3, stageEnd := s.gt + 15
              wbAuth := none, evMac := none }))
          issueCount := issueAfter s ev, evidenceExhausted := exhaustedAfter s ev }))
      ∧ ((r.deadline - s.gt).toInt < 15 →
        exec .dispatch s = .next (raiseReports (reports ++ evReports)
          { x with returnQueue := s.returnQueue ++ [notRunEntry r .late s.gt] })))
    ∧ (ev = none →
      (0 ≤ (r.deadline - s.gt).toInt →
        exec .dispatch s = .next (raiseReports (reports ++ evReports) { x with
          returnQueue := s.returnQueue ++
            [{ lane := r.lane, cells := r.cells, status := .ok, firstDone := false
               result := [verdictCode v, 0x03, if r.deadlineClamped then 0x0A else 0x02, newest]
                 ++ List.replicate 20 0x00 ++ leBytes32 s.gt }] }))
      ∧ ((r.deadline - s.gt).toInt < 0 →
        exec .dispatch s = .next (raiseReports (reports ++ evReports)
          { x with returnQueue := s.returnQueue ++ [notRunEntry r .late s.gt] })))

/-- Damage to key RAM is what later ECC reads of the key value report (R77); a slot without a key value has
none to damage (log entry 10).
A master-key read that finds an uncorrectable error (R48, R76, R77, R83, R84, R86, R121, R131): the slot becomes
FAULTY with its generation, days and grace, its epoch rises by 1, its cache entries go, its slice's mark
is set and a COMMIT of its slice in flight is re-marked; UNCORRECTED_ECC is reported with lane, slice and slot;
the request completes KEYLESS with KEY_FAULT when it wants no evidence. -/
def Obligations.KeyRamDamage : Prop :=
  (∀ (n : SliceNo) (k : SlotNo) (d : Damage) (s : State),
     ((s.slot n k).key = none → exec (.keyRamDamage n k d) s = .next s)
     ∧ ∀ c, (s.slot n k).key = some c →
       ∃ slices', exec (.keyRamDamage n k d) s = .next { s with slices := slices' }
         ∧ (slices'[n])[k] = { s.slot n k with
             key := some { c with
               ecc := if d = .correctable then Ecc.correctable else Ecc.uncorrectable } }
         ∧ ∀ m j, (m, j) ≠ (n, k) → (slices'[m])[j] = s.slot m j)
  ∧ (∀ (e : EngineNo) (r : PassRequest) (ref : SlotRef) (c : KeyCell) (s : State),
       HandedOut e s → Chosen r s → (s.lane r.lane).state ≠ .halted → lookup s r = .bearing ref →
       ProbeMisses s r ref → (s.slot ref.slice ref.slot).key = some c → c.ecc = .uncorrectable →
       r.wantEvidence = false → 0 ≤ (r.deadline - s.gt).toInt →
       ∃ u, exec .dispatch s = .next (raiseReport
           { cls := .uncorrectedEcc, lane := some r.lane, slice := some ref.slice
             slot := some ref.slot } u)
         ∧ u = { s with
             lanes := lanesWithout r s, slices := u.slices, directory := u.directory
             nvmOp := u.nvmOp, cache := u.cache, returnQueue := u.returnQueue }
         ∧ u.slot ref.slice ref.slot = { s.slot ref.slice ref.slot with
             state := .faulty, key := none, epoch := (s.slot ref.slice ref.slot).epoch + 1 }
         ∧ (∀ n k, (n, k) ≠ (ref.slice, ref.slot) → u.slot n k = s.slot n k)
         ∧ u.cache = s.cache.filter
             (fun x => !(x.ref.slice == ref.slice && x.ref.slot == ref.slot))
         ∧ (∀ b, s.binding ref.slice = some b → u.binding ref.slice = some { b with dirty := true })
         ∧ (∀ n, n ≠ ref.slice → u.binding n = s.binding n)
         ∧ (∀ o q code, s.nvmOp = some o → o.op = .commit q → q.target = .slice ref.slice code →
             u.nvmOp = some { o with op := .commit { q with remark := true } })
         ∧ ((∀ o q code, s.nvmOp = some o → o.op = .commit q → q.target ≠ .slice ref.slice code) →
             u.nvmOp = s.nvmOp)
         ∧ ∃ x, u.returnQueue = s.returnQueue ++ [x] ∧ x.status = .ok ∧ x.cells = r.cells
             ∧ byteAt x.result 0 = 0x08 ∧ byteAt x.result 1 = 0x03)

/-- The law of dispatch (R35): whatever a dispatch finds, a pass request that it puts into an engine runs
stages whose blocks, 5 µs each, fit into its slack at the dispatch, and the first of them ends when its
blocks are done.
The serials that dispatches assign rise strictly (R51): a dispatch whose request takes a serial takes
the present one, with the start part above the issue count, and advances the issue count, or at 0xFFFFF
sets EVIDENCE_EXHAUSTED. The blocks of a stage are those of R34: 2, 1 + ceil((8 + PLEN + 1) / 16),
1 + ceil((8 + WLEN + 1) / 16) and 3. -/
def Obligations.LawOfDispatch : Prop :=
  (∀ (e : EngineNo) (w : PassWork) (s t : State), exec .dispatch s = .next t →
     s.engine e = none → t.engine e = some (.pass w) →
     ((5 * (w.stages.map (stageBlocksOf w.request)).sum : Nat) : Int)
       ≤ (w.request.deadline - s.gt).toInt
     ∧ w.stages ≠ [] ∧ w.dispatchGt = s.gt
     ∧ (w.mode = .reduced → w.request.allowReduced = true)
     ∧ (Stage.write ∈ w.stages ↔ w.mode = .full)
     ∧ ∃ st rest, w.stages = st :: rest
         ∧ w.stageEnd = s.gt + BitVec.ofNat 32 (5 * stageBlocksOf w.request st))
  ∧ (∀ (e : EngineNo) (w : PassWork) (v : Word) (s t : State), exec .dispatch s = .next t →
       s.engine e = none → t.engine e = some (.pass w) → w.serial = some v →
       v.toNat = (s.startCount - 1) % 4096 * 2 ^ 20 + s.issueCount.toNat
       ∧ s.evidenceExhausted = false
       ∧ (s.issueCount.toNat < 0xFFFFF →
           t.issueCount.toNat = s.issueCount.toNat + 1 ∧ t.evidenceExhausted = false)
       ∧ (s.issueCount.toNat = 0xFFFFF → t.issueCount = s.issueCount ∧ t.evidenceExhausted = true))
  ∧ ∀ r : PassRequest,
      stageBlocksOf r .derive = 2 ∧ stageBlocksOf r .verify = 1 + (8 + r.plen + 1 + 15) / 16
      ∧ stageBlocksOf r .write = 1 + (8 + r.wlen + 1 + 15) / 16 ∧ stageBlocksOf r .evidence = 3

/-! ## The engines' stages (R54 to R65) -/

/-- DERIVE (R57, R59, R117 to R119): K_auth and K_write replace the master key; the offer is inserted at
rank 1, refreshing its triple's entry or removing rank 32 of a full cache, when the slot's epoch still
equals the captured one, and is refused otherwise; VERIFY starts at once. -/
def Obligations.DeriveCompletes : Prop :=
  ∀ (e : EngineNo) (w : PassWork) (ref : SlotRef) (m : Bytes) (rest : List Stage)
    (x : CacheEntry) (s : State),
    s.engine e = some (.pass w) → w.stages = .derive :: .verify :: rest → w.keys = .master m →
    w.ref = some ref → 0 ≤ (w.stageEnd - s.gt).toInt →
    x = { issuer := w.request.issuer, gen := w.request.gen, tagId := w.request.tagId, ref := ref
          kAuth := blockE m (beBytes16 w.request.issuer ++ [w.request.gen]
            ++ bytesAt w.request.tagId 0 8 ++ [0, 0, 0, 0, 1])
          kWrite := blockE m (beBytes16 w.request.issuer ++ [w.request.gen]
            ++ bytesAt w.request.tagId 0 8 ++ [0, 0, 0, 0, 2]) } →
    exec (.deriveComplete e) s = .next
      (atStage e { w with keys := .tag x.kAuth x.kWrite } .verify rest
        { s with
          gt := w.stageEnd
          cache :=
            if (s.slot ref.slice ref.slot).epoch = ref.epoch then
              (x :: s.cache.filter fun y => !(y.issuer == x.issuer && y.gen == x.gen
                && y.tagId == x.tagId)).take 32
            else s.cache })

/-- VERIFY (R56, R60): the verdict is ACCEPT exactly when the authenticator equals TAG_AUTH in all its
bytes; on REJECT_AUTH the WRITE stage is removed; the next stage starts at once, or the request
completes. The header block of every LKMAC is the 16 bytes of R56, its integers most significant byte
first. -/
def Obligations.VerifyCompletes : Prop :=
  (∀ (e : EngineNo) (w : PassWork) (ka kw : Bytes) (rest rest' : List Stage) (v : Verdict)
    (s : State),
    s.engine e = some (.pass w) → w.stages = .verify :: rest → w.keys = .tag ka kw →
    0 ≤ (w.stageEnd - s.gt).toInt →
    (lkmac ka (lkmacHeader 0x11 w.request.issuer w.request.gen w.request.tagId
          (8 + w.request.plen) w.request.lane)
        (bytesAt w.request.challenge 0 8 ++ w.request.message.take w.request.plen)
        = w.request.tagAuth ∧ v = .accept ∧ rest' = rest
      ∨ lkmac ka (lkmacHeader 0x11 w.request.issuer w.request.gen w.request.tagId
          (8 + w.request.plen) w.request.lane)
        (bytesAt w.request.challenge 0 8 ++ w.request.message.take w.request.plen)
        ≠ w.request.tagAuth ∧ v = .rejectAuth ∧ rest' = rest.filter (fun st => st != .write)) →
    (∀ st tail, rest' = st :: tail →
      exec (.verifyComplete e) s = .next
        (atStage e { w with verdict := some v } st tail { s with gt := w.stageEnd }))
    ∧ (rest' = [] →
      exec (.verifyComplete e) s = .next (makeEntry
        { lane := w.request.lane, cells := w.request.cells, status := ranStatus w.mode
          result := runArea { w with verdict := some v, stages := [] } w.stageEnd
          firstDone := false }
        { s with gt := w.stageEnd, engines := s.engines.set e none })))
  ∧ ∀ (domain : Byte) (issuer : Half) (gen : Byte) (tagId : Bytes) (len : Nat) (lane : LaneNo),
      lkmacHeader domain issuer gen tagId len lane =
        [domain, issuer.extractLsb' 8 8, issuer.extractLsb' 0 8, gen,
          byteAt tagId 0, byteAt tagId 1, byteAt tagId 2, byteAt tagId 3,
          byteAt tagId 4, byteAt tagId 5, byteAt tagId 6, byteAt tagId 7,
          BitVec.ofNat 8 (len / 256), BitVec.ofNat 8 len, BitVec.ofNat 8 lane.val, 0x00]

/-- WRITE (R56, R61): WB_AUTH is the LKMAC under K_write over TAG_AUTH and the write data; EVIDENCE starts
at once, or the request completes and its engine is free (R63).
EVIDENCE (R56, R62, R63): EV_MAC is the LKMAC under the evidence key over the 27-byte evidence message;
the request completes, its entry is made with DONE_TIME now, and its engine is free. -/
def Obligations.WriteAndEvidenceComplete : Prop :=
  (∀ (e : EngineNo) (w : PassWork) (ka kw auth : Bytes) (rest : List Stage) (s : State),
     s.engine e = some (.pass w) → w.stages = .write :: rest → w.keys = .tag ka kw →
     0 ≤ (w.stageEnd - s.gt).toInt →
     auth = lkmac kw (lkmacHeader 0x12 w.request.issuer w.request.gen w.request.tagId
         (8 + w.request.wlen) w.request.lane)
       (bytesAt w.request.tagAuth 0 8
         ++ (w.request.message.drop w.request.plen).take w.request.wlen) →
     (∀ st tail, rest = st :: tail →
       exec (.writeComplete e) s = .next
         (atStage e { w with wbAuth := some auth } st tail { s with gt := w.stageEnd }))
     ∧ (rest = [] →
       exec (.writeComplete e) s = .next (makeEntry
         { lane := w.request.lane, cells := w.request.cells, status := ranStatus w.mode
           result := runArea { w with wbAuth := some auth, stages := [] } w.stageEnd
           firstDone := false }
         { s with gt := w.stageEnd, engines := s.engines.set e none })))
  ∧ (∀ (e : EngineNo) (w : PassWork) (gantry serial : Word) (v : Verdict) (key : Bytes) (s : State),
       s.engine e = some (.pass w) → w.stages = [.evidence] → w.evidenceKey = some key →
       w.verdict = some v → w.serial = some serial → s.gantryId = some gantry →
       0 ≤ (w.stageEnd - s.gt).toInt →
       exec (.evidenceComplete e) s = .next (makeEntry
         { lane := w.request.lane, cells := w.request.cells, status := ranStatus w.mode
           firstDone := false
           result := runArea
             { w with
               stages := []
               evMac := some (lkmac key
                 (lkmacHeader 0x13 w.request.issuer w.request.gen w.request.tagId 27 w.request.lane)
                 (beBytes32 gantry ++ [BitVec.ofNat 8 w.request.lane.val, verdictCode v,
                     modeCode w.mode]
                   ++ beBytes32 w.request.entryTime ++ beBytes32 w.dispatchGt ++ beBytes32 serial
                   ++ bytesAt w.request.tagAuth 0 8)) } w.stageEnd }
         { s with gt := w.stageEnd, engines := s.engines.set e none }))

/-- LKMAC (R55): a message of L bytes is padded by 0x80 and zeros to n = ceil((L + 1) / 16) blocks, each
Xi is E of Xi-1 XOR Mi from X0 = E(K, H), and the authenticator is the first 8 bytes of Xn. -/
def Obligations.LkmacChain : Prop :=
  ∀ (key header m : Bytes), ∃ (padded : Bytes) (x : Nat → Bytes) (n : Nat),
    n = (m.length + 1 + 15) / 16 ∧ padded.length = 16 * n
    ∧ padded.take m.length = m ∧ byteAt padded m.length = 0x80
    ∧ (∀ i, m.length < i → byteAt padded i = 0x00)
    ∧ x 0 = blockE key header
    ∧ (∀ i, i < n → x (i + 1) = blockE key (xorBlock (x i) (bytesAt padded (16 * i) 16)))
    ∧ lkmac key header m = (x n).take 8

/-! ## Service requests (Chapter 5) -/

/-- ISSUER_ADD (R97, R72): its checks in order, and the binding of the lowest free slice from 1 upward with
both dirty marks set.
ISSUER_REMOVE (R98, R72): its checks in order, and the removal of the entry with the directory's mark
set. ISSUER_LOCK (R99): NO_ISSUER for an absent code; otherwise the lock flag is set, or stays set. -/
def Obligations.IssuerRequests : Prop :=
  (∀ (h : ServiceRequest) (rest : List ServiceRequest) (code : Half) (s : State),
     Arrived .issuerAdd h rest s → code = le16 h.cell.bytes 6 →
     (code = 0 → exec .issuerAdd s = .next (completedAsWritten h rest .malformed s))
     ∧ (∀ n, code ≠ 0 → BoundTo s code n →
         exec .issuerAdd s =
           .next (completedWith h rest .issuerExists (leading [BitVec.ofNat 8 n.val]) s))
     ∧ (code ≠ 0 → Unbound s code →
       (CommittingDirectory s →
         exec .issuerAdd s = .next (completedWith h rest .busy (leading []) s))
       ∧ (¬ CommittingDirectory s → (∀ n, n ≠ 0 → s.binding n ≠ none) →
         exec .issuerAdd s = .next (completedWith h rest .noSlice (leading []) s))
       ∧ (∀ n, ¬ CommittingDirectory s → n ≠ 0 → s.binding n = none →
           (∀ m, m ≠ 0 → m.val < n.val → s.binding m ≠ none) →
         exec .issuerAdd s = .next (completedWith h rest .ok (leading [BitVec.ofNat 8 n.val])
           { s with
             directory := s.directory.set n (some { issuer := code, locked := false, dirty := true })
             dirDirty := true }))))
  ∧ (∀ (h : ServiceRequest) (rest : List ServiceRequest) (code : Half) (s : State),
       Arrived .issuerRemove h rest s → code = le16 h.cell.bytes 6 →
       (code = 0 ∨ Unbound s code →
         exec .issuerRemove s = .next (completedWith h rest .noIssuer (leading []) s))
       ∧ (∀ n b, code ≠ 0 → BoundTo s code n → s.binding n = some b →
         (b.locked = true →
           exec .issuerRemove s =
             .next (completedWith h rest .locked (leading [BitVec.ofNat 8 n.val]) s))
         ∧ (b.locked = false → (CommittingDirectory s ∨ CommittingSlice s n) →
           exec .issuerRemove s =
             .next (completedWith h rest .busy (leading [BitVec.ofNat 8 n.val]) s))
         ∧ (b.locked = false → ¬ CommittingDirectory s → ¬ CommittingSlice s n →
           ((∃ k, (s.slot n k).state ≠ .empty) →
             exec .issuerRemove s = .next (completedWith h rest .wrongState
               (leading [BitVec.ofNat 8 n.val, 0xFF, 0xFF,
                 BitVec.ofNat 8 (allSlots.filter fun k => (s.slot n k).state != .empty).length]) s))
           ∧ ((∀ k, (s.slot n k).state = .empty) →
             exec .issuerRemove s =
               .next (completedWith h rest .ok (leading [BitVec.ofNat 8 n.val])
                 { s with directory := s.directory.set n none, dirDirty := true })))))
  ∧ (∀ (h : ServiceRequest) (rest : List ServiceRequest) (code : Half) (s : State),
       Arrived .issuerLock h rest s → code = le16 h.cell.bytes 6 →
       (Unbound s code → exec .issuerLock s = .next (completedWith h rest .noIssuer (leading []) s))
       ∧ (∀ n b, BoundTo s code n → s.binding n = some b →
         exec .issuerLock s = .next (completedWith h rest .ok (leading [BitVec.ofNat 8 n.val])
           { s with directory := s.directory.set n (some { b with locked := true }) })))

/-- KEY_STAGE at the head (R100): its checks in order; when all pass the request becomes ready and nothing
else changes. -/
def Obligations.KeyStageChecks : Prop :=
  ∀ (h : ServiceRequest) (rest : List ServiceRequest) (code : Half) (s : State),
    Arrived .keyStage h rest s → code = le16 h.cell.bytes 6 →
    (Unbound s code → exec .keyStage s = .next (completedWith h rest .noIssuer (leading []) s))
    ∧ (∀ n b, BoundTo s code n → s.binding n = some b →
      (b.locked = true →
        exec .keyStage s = .next (completedWith h rest .locked (leading [BitVec.ofNat 8 n.val]) s))
      ∧ (b.locked = false → CommittingSlice s n →
        exec .keyStage s = .next (completedWith h rest .busy (leading [BitVec.ofNat 8 n.val]) s))
      ∧ (b.locked = false → ¬ CommittingSlice s n →
        (s.transport = none →
          exec .keyStage s =
            .next (completedWith h rest .noTransport (leading [BitVec.ofNat 8 n.val]) s))
        ∧ (s.transport ≠ none →
          ((le16 h.cell.bytes 12).toNat < (le16 h.cell.bytes 10).toNat →
            exec .keyStage s = .next (completedAsWritten h rest .malformed s))
          ∧ ((le16 h.cell.bytes 10).toNat ≤ (le16 h.cell.bytes 12).toNat →
            (∀ o w, oldestGen (s.genList n) = some o → newestGen (s.genList n) = some w →
                genRefused s n (byteAt h.cell.bytes 8) = true →
              exec .keyStage s = .next (completedWith h rest .genOrder
                (leading [BitVec.ofNat 8 n.val, 0xFF, 0xFF, 0xFF, o, w]) s))
            ∧ (genRefused s n (byteAt h.cell.bytes 8) = false →
              ((∀ k, (s.slot n k).state ≠ .empty) →
                exec .keyStage s =
                  .next (completedWith h rest .noSlot (leading [BitVec.ofNat 8 n.val]) s))
              ∧ ((∃ k, (s.slot n k).state = .empty) →
                exec .keyStage s = .next { s with fifo := { h with phase := .ready } :: rest }))))))

/-- The admissible generations (R79, R100): in a slice whose list has the oldest generation o and the newest
n, g is admitted exactly when it is not carried, (g - n) mod 256 lies in 1..127 and (g - o) mod 256 is 127
or less; an empty list admits every g; and a list that meets the law of R78 meets it with an admitted g
added. -/
def Obligations.AdmissibleGenerations : Prop :=
  ∀ (s : State) (n : SliceNo) (g : Byte),
    (s.genList n = [] → genRefused s n g = false)
    ∧ (∀ o w, oldestGen (s.genList n) = some o → newestGen (s.genList n) = some w →
      (genRefused s n g = false ↔
        g ∉ s.genList n ∧ 1 ≤ (g - w).toNat ∧ (g - w).toNat ≤ 127 ∧ (g - o).toNat ≤ 127))
    ∧ (genLaw (s.genList n) = true → genRefused s n g = false →
        genLaw (s.genList n ++ [g]) = true ∧ newestGen (s.genList n ++ [g]) = some g)

/-- The completion of a KEY_STAGE's engine work (R93, R101): the candidate key is D(transport key, wrapped
key) as captured; a KCV that agrees fills the lowest EMPTY slot with the request's fields, in the state of
the day, with its epoch raised, its cache entries purged and the slice marked; a KCV that differs changes
nothing and returns WRAP_CHECK. The engine is free in both cases. -/
def Obligations.KeyStageFills : Prop :=
  ∀ (e : EngineNo) (w : ServiceWork) (h : ServiceRequest) (rest : List ServiceRequest) (n : SliceNo)
    (k : SlotNo) (b : Binding) (u : State) (s : State),
    s.engine e = some (.service w) → s.fifo = h :: rest → h.phase = .inEngine → h.kind = .keyStage →
    BoundTo s (le16 h.cell.bytes 6) n → s.binding n = some b →
    (s.slot n k).state = .empty → (∀ j, j.val < k.val → (s.slot n j).state ≠ .empty) →
    0 ≤ (w.workEnd - s.gt).toInt →
    u = { s with gt := w.workEnd, engines := s.engines.set e none } →
    ((blockE (blockD w.transportKey w.wrapped) (List.replicate 16 0)).take 3 ≠ w.kcv →
      exec (.serviceUnwrapComplete e) s = .next
        (completedWith h rest .wrapCheck
          (leading [BitVec.ofNat 8 n.val, BitVec.ofNat 8 k.val]) u))
    ∧ (∀ i st, (blockE (blockD w.transportKey w.wrapped) (List.replicate 16 0)).take 3 = w.kcv →
      i = { gen := byteAt h.cell.bytes 8, fromDay := le16 h.cell.bytes 10
            toDay := le16 h.cell.bytes 12
            grace := if 60 < (byteAt h.cell.bytes 9).toNat then 60 else byteAt h.cell.bytes 9 } →
      st = dayState s.currentDay i → ¬ CommittingSlice s n →
      ∃ slices', exec (.serviceUnwrapComplete e) s = .next
          (completedWith h rest .ok
            (leading [BitVec.ofNat 8 n.val, BitVec.ofNat 8 k.val, slotStateCode st])
            { u with
              slices := slices'
              directory := s.directory.set n (some { b with dirty := true })
              cache := s.cache.filter fun y => !(y.ref.slice == n && y.ref.slot == k) })
        ∧ (slices'[n])[k] =
            { state := st, info := some i, epoch := (s.slot n k).epoch + 1
              key := some
                { value := blockD w.transportKey w.wrapped, kcv := bytesAt h.cell.bytes 14 3
                  ecc := .clean } }
        ∧ ∀ m j, (m, j) ≠ (n, k) → (slices'[m])[j] = s.slot m j)

/-- KEY_REVOKE (R103, R83, R84, R121): its checks in order; a LIVE slot becomes REVOKED with its fields
kept, its epoch raised, its entries purged and its slice marked; a REVOKED or FAULTY one does not
change.
KEY_ERASE (R104, R105): its checks in order; ACTIVE and RETIRING are refused; a slot that held a key is
emptied with its epoch raised and its entries purged; a FAULTY slot is emptied with its epoch kept, and for a
generation that no slot carries the lowest FAULTY slot without one is. -/
def Obligations.KeyRevokeAndErase : Prop :=
  (∀ (h : ServiceRequest) (rest : List ServiceRequest) (code : Half) (s : State),
     Arrived .keyRevoke h rest s → code = le16 h.cell.bytes 6 →
     (Unbound s code → exec .keyRevoke s = .next (completedWith h rest .noIssuer (leading []) s))
     ∧ (∀ n b, BoundTo s code n → s.binding n = some b →
       (b.locked = true →
         exec .keyRevoke s = .next (completedWith h rest .locked (leading [BitVec.ofNat 8 n.val]) s))
       ∧ (b.locked = false → CommittingSlice s n →
         exec .keyRevoke s = .next (completedWith h rest .busy (leading [BitVec.ofNat 8 n.val]) s))
       ∧ (b.locked = false → ¬ CommittingSlice s n →
         (CarriedByNone s n (byteAt h.cell.bytes 8) →
           exec .keyRevoke s =
             .next (completedWith h rest .wrongState (leading [BitVec.ofNat 8 n.val]) s))
         ∧ (∀ k, Carries s n k (byteAt h.cell.bytes 8) →
           ((s.slot n k).state = .revoked ∨ (s.slot n k).state = .faulty →
             exec .keyRevoke s = .next (completedWith h rest .ok (leading
               [BitVec.ofNat 8 n.val, BitVec.ofNat 8 k.val, slotStateCode (s.slot n k).state]) s))
           ∧ ((s.slot n k).live = true →
             ∃ slices', exec .keyRevoke s = .next (completedWith h rest .ok (leading
                 [BitVec.ofNat 8 n.val, BitVec.ofNat 8 k.val, slotStateCode (s.slot n k).state])
                 { s with
                   slices := slices'
                   directory := s.directory.set n (some { b with dirty := true })
                   cache := s.cache.filter fun y => !(y.ref.slice == n && y.ref.slot == k) })
               ∧ (slices'[n])[k] = { s.slot n k with
                   state := .revoked, epoch := (s.slot n k).epoch + 1 }
               ∧ ∀ m j, (m, j) ≠ (n, k) → (slices'[m])[j] = s.slot m j)))))
  ∧ (∀ (h : ServiceRequest) (rest : List ServiceRequest) (code : Half) (s : State),
       Arrived .keyErase h rest s → code = le16 h.cell.bytes 6 →
       (Unbound s code → exec .keyErase s = .next (completedWith h rest .noIssuer (leading []) s))
       ∧ (∀ n b, BoundTo s code n → s.binding n = some b →
         (b.locked = true →
           exec .keyErase s = .next (completedWith h rest .locked (leading [BitVec.ofNat 8 n.val]) s))
         ∧ (b.locked = false → CommittingSlice s n →
           exec .keyErase s = .next (completedWith h rest .busy (leading [BitVec.ofNat 8 n.val]) s))
         ∧ (b.locked = false → ¬ CommittingSlice s n →
           (∀ k, Carries s n k (byteAt h.cell.bytes 8) →
               ((s.slot n k).state = .active ∨ (s.slot n k).state = .retiring) →
             exec .keyErase s = .next (completedWith h rest .wrongState (leading
               [BitVec.ofNat 8 n.val, BitVec.ofNat 8 k.val, slotStateCode (s.slot n k).state]) s))
           ∧ (CarriedByNone s n (byteAt h.cell.bytes 8) →
               (∀ k, ¬ ((s.slot n k).state = .faulty ∧ (s.slot n k).info = none)) →
             exec .keyErase s =
               .next (completedWith h rest .wrongState (leading [BitVec.ofNat 8 n.val]) s))
           ∧ (∀ k, (Carries s n k (byteAt h.cell.bytes 8)
                   ∧ ((s.slot n k).state = .staged ∨ (s.slot n k).state = .expired
                     ∨ (s.slot n k).state = .revoked ∨ (s.slot n k).state = .faulty))
                 ∨ (CarriedByNone s n (byteAt h.cell.bytes 8)
                   ∧ (s.slot n k).state = .faulty ∧ (s.slot n k).info = none
                   ∧ ∀ j, j.val < k.val → ¬ ((s.slot n j).state = .faulty ∧ (s.slot n j).info = none)) →
             ∃ slices', exec .keyErase s = .next (completedWith h rest .ok (leading
                 [BitVec.ofNat 8 n.val, BitVec.ofNat 8 k.val, slotStateCode (s.slot n k).state])
                 { s with
                   slices := slices'
                   directory := s.directory.set n (some { b with dirty := true })
                   cache := if (s.slot n k).state = .faulty then s.cache
                     else s.cache.filter fun y => !(y.ref.slice == n && y.ref.slot == k) })
               ∧ (slices'[n])[k] =
                   { state := .empty, info := none, key := none
                     epoch := if (s.slot n k).state = .faulty then (s.slot n k).epoch
                       else (s.slot n k).epoch + 1 }
               ∧ ∀ m j, (m, j) ≠ (n, k) → (slices'[m])[j] = s.slot m j))))

/-- SET_DAY (R106, R107): an earlier day is refused; the present day changes nothing; a later day becomes the
current day, sets the directory's mark, and takes every LIVE slot of every bound slice to the day function's
state, raising the epoch of the slots that leave ACTIVE and RETIRING and purging their entries.
CHANGED_COUNT is the number of slots whose state the sweep changes and LEFT_COUNT of those that leave ACTIVE
and RETIRING; the entries that remain keep their order. The day function is that of R81. -/
def Obligations.SetDay : Prop :=
  (∀ (h : ServiceRequest) (rest : List ServiceRequest) (d : Half) (s : State),
     Arrived .setDay h rest s → d = le16 h.cell.bytes 6 →
     (d.toNat < s.currentDay.toNat →
       exec .setDay s =
         .next (completedWith h rest .dayBackward (leading (leBytes16 s.currentDay)) s))
     ∧ (s.currentDay.toNat ≤ d.toNat → CommittingDirectory s →
       exec .setDay s = .next (completedWith h rest .busy (leading (leBytes16 s.currentDay)) s))
     ∧ (d = s.currentDay → ¬ CommittingDirectory s →
       exec .setDay s =
         .next (completedWith h rest .ok (leading (leBytes16 d ++ leBytes16 d ++ [0, 0, 0, 0])) s))
     ∧ (s.currentDay.toNat < d.toNat → ¬ CommittingDirectory s →
       ∃ (slices' : Vector (Vector Slot 8) 32) (changed left : Nat),
         exec .setDay s = .next (completedWith h rest .ok (leading (leBytes16 s.currentDay
             ++ leBytes16 d ++ leBytes16 (BitVec.ofNat 16 changed) ++ leBytes16 (BitVec.ofNat 16 left)))
           { s with
             currentDay := d, dirDirty := true, slices := slices'
             cache := s.cache.filter fun x => decide
               ((slices'[x.ref.slice])[x.ref.slot].epoch = (s.slot x.ref.slice x.ref.slot).epoch) })
         ∧ (∀ n k, (s.binding n = none ∨ (s.slot n k).live = false) →
             (slices'[n])[k] = s.slot n k)
         ∧ (∀ n k i, s.binding n ≠ none → (s.slot n k).live = true → (s.slot n k).info = some i →
             (slices'[n])[k] = { s.slot n k with
               state := dayState d i
               epoch := if (s.slot n k).serving = true ∧ dayState d i = .expired
                 then (s.slot n k).epoch + 1 else (s.slot n k).epoch })
         ∧ changed = ((allSlices.flatMap fun n => allSlots.map fun k => (n, k)).filter
             fun p => decide ((slices'[p.1])[p.2].state ≠ (s.slot p.1 p.2).state)).length
         ∧ left = ((allSlices.flatMap fun n => allSlots.map fun k => (n, k)).filter
             fun p => decide ((slices'[p.1])[p.2].epoch ≠ (s.slot p.1 p.2).epoch)).length))
  ∧ (∀ (d : Half) (i : SlotInfo),
       (dayState d i = .staged ↔ d.toNat < i.fromDay.toNat)
       ∧ (dayState d i = .active ↔ i.fromDay.toNat ≤ d.toNat ∧ d.toNat ≤ i.toDay.toNat)
       ∧ (i.fromDay.toNat ≤ i.toDay.toNat →
         (dayState d i = .retiring ↔
           i.toDay.toNat < d.toNat ∧ d.toNat ≤ i.toDay.toNat + i.grace.toNat)
         ∧ (dayState d i = .expired ↔ i.toDay.toNat + i.grace.toNat < d.toNat)))

/-- TRANSPORT_REPLACE (R109, R110, R93): its checks at the head, and at the completion of its engine work the
replacement of the transport key by the candidate, or WRAP_CHECK with nothing changed. -/
def Obligations.TransportReplace : Prop :=
  ∀ (h : ServiceRequest) (rest : List ServiceRequest) (s : State),
    (Arrived .transportReplace h rest s →
      (s.transport = none →
        exec .transportReplace s = .next (completedWith h rest .noTransport (leading []) s))
      ∧ (s.transport ≠ none → CommittingDirectory s →
        exec .transportReplace s = .next (completedWith h rest .busy (leading []) s))
      ∧ (s.transport ≠ none → ¬ CommittingDirectory s →
        exec .transportReplace s = .next { s with fifo := { h with phase := .ready } :: rest }))
    ∧ (∀ e w u, s.engine e = some (.service w) → s.fifo = h :: rest → h.phase = .inEngine →
        h.kind = .transportReplace → 0 ≤ (w.workEnd - s.gt).toInt →
        u = { s with gt := w.workEnd, engines := s.engines.set e none } →
      ((blockE (blockD w.transportKey w.wrapped) (List.replicate 16 0)).take 3 ≠ w.kcv →
        exec (.serviceUnwrapComplete e) s = .next (completedWith h rest .wrapCheck (leading []) u))
      ∧ ((blockE (blockD w.transportKey w.wrapped) (List.replicate 16 0)).take 3 = w.kcv →
        exec (.serviceUnwrapComplete e) s = .next (completedWith h rest .ok (leading [])
          { u with
            dirDirty := true
            transport := some
              { key := blockD w.transportKey w.wrapped, kcv := bytesAt h.cell.bytes 14 3 } })))

/-- LOG_READ (R149): the log record and ERROR_FLAGS are copied and neither changes. -/
def Obligations.LogRead : Prop :=
  ∀ (h : ServiceRequest) (rest : List ServiceRequest) (s : State), Arrived .logRead h rest s →
    (s.errorLog = none →
      exec .logRead s = .next (completedWith h rest .ok
        (leading [0, 0xFF, 0xFF, 0xFF, 0, 0, 0, 0, 0, s.errorFlags.setWidth 8]) s))
    ∧ (∀ r, s.errorLog = some r →
      exec .logRead s = .next (completedWith h rest .ok
        (leading ([BitVec.ofNat 8 (severity r.cls),
            (r.lane.map fun l => BitVec.ofNat 8 l.val).getD 0xFF,
            (r.slice.map fun n => BitVec.ofNat 8 n.val).getD 0xFF,
            (r.slot.map fun k => BitVec.ofNat 8 k.val).getD 0xFF]
          ++ leBytes32 r.gt ++ [BitVec.ofNat 8 r.further, s.errorFlags.setWidth 8])) s))

/-- LANE_STOP (R41, R42): MALFORMED for a lane number of 16 or above, WRONG_STATE for a lane that is not
RUNNING; otherwise the lane drains with its STOPPED returns, and the LANE_STOP's own entry, with the held
count and the new lane state, follows them. The STOPPED returns stand in the
order of R41: the pending extensions as one entry, the queued requests in take order with the not-run area,
and the unstarted service requests in FIFO order as written.
LANE_RESUME (R44): its checks in order; a lane that passes them is RUNNING at the given cursor with
SCAN_WANTED set and its pending list empty. -/
def Obligations.LaneStopAndResume : Prop :=
  (∀ (h : ServiceRequest) (rest : List ServiceRequest) (s : State), Arrived .laneStop h rest s →
     (16 ≤ (byteAt h.cell.bytes 6).toNat →
       exec .laneStop s = .next (completedAsWritten h rest .malformed s))
     ∧ (∀ l : LaneNo, (byteAt h.cell.bytes 6).toNat = l.val → (s.lane l).state ≠ .running →
       exec .laneStop s = .next (completedWith h rest .wrongState
         (leading [BitVec.ofNat 8 (s.lane l).held, laneStateCode (s.lane l).state]) s))
     ∧ (∀ l : LaneNo, (byteAt h.cell.bytes 6).toNat = l.val → (s.lane l).state = .running →
         (s.lane h.lane).state ≠ .halted →
       ∃ st t, st = (if (s.lane l).held = 0 then LaneState.paused else .draining)
         ∧ exec .laneStop s = .next t
         ∧ t = { s with
             lanes := s.lanes.set l { s.lane l with
               state := st, scanWanted := false, pendingExt := [], queue := [] }
             fifo := rest.filter (fun r => !(r.lane == l && r.phase != .inEngine))
             readChannel := t.readChannel
             returnQueue := s.returnQueue ++ drainEntries l { s with fifo := rest }
               ++ [{ lane := h.lane, cells := [h.cell], status := .ok, firstDone := false
                     result := leading [BitVec.ofNat 8 (s.lane l).held, laneStateCode st]
                       ++ leBytes32 s.gt }] }
         ∧ (∀ r, s.readChannel = .cell r →
             t.readChannel = .cell { r with stale := r.stale || r.lane == l })
         ∧ ((∀ r, s.readChannel ≠ .cell r) → t.readChannel = s.readChannel)))
  ∧ (∀ (l : LaneNo) (s : State), ∃ a b c, drainEntries l s = a ++ b ++ c
       ∧ ((s.lane l).pendingExt = [] → a = [])
       ∧ ((s.lane l).pendingExt ≠ [] →
           ∃ x, a = [x] ∧ x.lane = l ∧ x.cells = (s.lane l).pendingExt ∧ x.status = .stopped)
       ∧ b = (s.lane l).queue.map (fun r => notRunEntry r .stopped s.gt)
       ∧ c = (s.fifo.filter fun r => r.lane == l && r.phase != .inEngine).map
           (fun r => { lane := l, cells := [r.cell], status := .stopped, firstDone := false
                       result := bytesAt r.cell.bytes 36 28 }))
  ∧ (∀ (h : ServiceRequest) (rest : List ServiceRequest) (s : State), Arrived .laneResume h rest s →
       (16 ≤ (byteAt h.cell.bytes 6).toNat →
         exec .laneResume s = .next (completedAsWritten h rest .malformed s))
       ∧ (∀ l : LaneNo, (byteAt h.cell.bytes 6).toNat = l.val →
         ((s.lane l).state ≠ .disabled →
             (s.lane l).config.stripLen ≤ (le16 h.cell.bytes 8).toNat →
           exec .laneResume s = .next (completedAsWritten h rest .malformed s))
         ∧ ((s.lane l).state = .disabled
             ∨ ((le16 h.cell.bytes 8).toNat < (s.lane l).config.stripLen
               ∧ ((s.lane l).state = .running ∨ (s.lane l).state = .draining)) →
           exec .laneResume s = .next (completedWith h rest .wrongState
             (leading [BitVec.ofNat 8 (s.lane l).held, laneStateCode (s.lane l).state]) s))
         ∧ ((le16 h.cell.bytes 8).toNat < (s.lane l).config.stripLen → (s.lane l).state = .halted →
             0 < (s.lane l).held →
           exec .laneResume s = .next (completedWith h rest .busy
             (leading [BitVec.ofNat 8 (s.lane l).held, 0x04]) s))
         ∧ ((le16 h.cell.bytes 8).toNat < (s.lane l).config.stripLen → (s.lane l).held = 0 →
             ((s.lane l).state = .halted ∨ (s.lane l).state = .paused) →
           exec .laneResume s = .next (completedWith h rest .ok (leading [0x00, 0x01])
             { s with lanes := s.lanes.set l { s.lane l with
                 state := .running, cursor := (le16 h.cell.bytes 8).toNat
                 scanWanted := true, pendingExt := [] } }))))

/-! ## COMMIT and the NVM controller (R128 to R133) -/

/-- COMMIT at the head (R128, R129): its checks in order; a clean target completes OK at once with MARK_AFTER
0; a dirty one takes the snapshot, starts the operation record at the erase, which clears the sector's last
word and the image's mark word first (log entry 9), and leaves the FIFO with its cell held. The snapshot of a
slice reads every key value it holds: a corrected one goes into the image and is reported; a slot whose read
fails becomes FAULTY with its epoch raised and its cache entries purged, is recorded so, and is reported. The
reports act after the start, in slot order (log entry 11). -/
def Obligations.CommitAtHead : Prop :=
  ∀ (h : ServiceRequest) (rest : List ServiceRequest) (code : Half) (s : State),
    Arrived .commit h rest s → code = le16 h.cell.bytes 6 → nvmWf s.nvm = true →
    (byteAt h.cell.bytes 8 ≠ 0x01 ∧ byteAt h.cell.bytes 8 ≠ 0x02 →
      exec .commit s = .next (completedAsWritten h rest .malformed s))
    ∧ ((byteAt h.cell.bytes 8 = 0x01 ∨ byteAt h.cell.bytes 8 = 0x02) → s.nvmOp ≠ none →
      exec .commit s = .next (completedWith h rest .busy (leading []) s))
    ∧ (byteAt h.cell.bytes 8 = 0x02 → s.nvmOp = none →
      (s.dirDirty = false →
        exec .commit s = .next (completedWith h rest .ok (leading [0xFF, 0x00]) s))
      ∧ (s.dirDirty = true → ∃ m, exec .commit s = .next { s with
            fifo := rest, nvm := m
            nvmOp := some
              { op := .commit
                  { target := .directory, image := directoryImage s, step := .erase
                    cell := some h.cell, lane := h.lane, remark := false }
                startGt := s.gt, stepEnd := s.gt + 12000 } }
          ∧ ∀ a, nvmGet m a =
              if (1532 ≤ a ∧ a < 1536) ∨ (1340 ≤ a ∧ a < 1344) then 0xFF else nvmGet s.nvm a))
    ∧ (byteAt h.cell.bytes 8 = 0x01 → s.nvmOp = none →
      (Unbound s code → exec .commit s = .next (completedWith h rest .noIssuer (leading []) s))
      ∧ (∀ n b, BoundTo s code n → s.binding n = some b →
        (b.dirty = false → exec .commit s =
          .next (completedWith h rest .ok (leading [BitVec.ofNat 8 n.val, 0x00]) s))
        ∧ (∀ failed fixed : SlotNo → Bool, b.dirty = true →
            (∀ k, (s.slot n k).holdsKey = true → ∃ c, (s.slot n k).key = some c) →
            (∀ k, failed k = true ↔ (s.slot n k).holdsKey = true
              ∧ ∃ c, (s.slot n k).key = some c ∧ c.ecc = .uncorrectable) →
            (∀ k, fixed k = true ↔ (s.slot n k).holdsKey = true
              ∧ ∃ c, (s.slot n k).key = some c ∧ c.ecc = .correctable) →
          ∃ (m : List Host.Cell) (slices' : Vector (Vector Slot 8) 32),
            exec .commit s = .next (raiseReports
              (allSlots.flatMap fun k =>
                if failed k then [eccReport .uncorrectedEcc h.lane n k]
                else if fixed k then [eccReport .correctedEcc h.lane n k] else [])
              { s with
                fifo := rest, nvm := m, slices := slices'
                cache := s.cache.filter fun x => !(x.ref.slice == n && failed x.ref.slot)
                nvmOp := some
                  { op := .commit
                      { target := .slice n code, image := sliceImage { s with slices := slices' } n code
                        step := .erase, cell := some h.cell, lane := h.lane, remark := false }
                    startGt := s.gt, stepEnd := s.gt + 12000 } })
            ∧ (∀ k, (slices'[n])[k] = if failed k then
                { s.slot n k with state := .faulty, key := none, epoch := (s.slot n k).epoch + 1 }
              else s.slot n k)
            ∧ (∀ j k, j ≠ n → (slices'[j])[k] = s.slot j k)
            ∧ ∀ a, nvmGet m a =
                if (512 * (3 + n.val) + 508 ≤ a ∧ a < 512 * (3 + n.val) + 512)
                  ∨ (512 * (3 + n.val) + 284 ≤ a ∧ a < 512 * (3 + n.val) + 288) then 0xFF
                else nvmGet s.nvm a)))

/-- The steps of a COMMIT in flight that end with success (R131, R132): the erase leaves every byte of the
sector 0xFF, then the image's words are programmed in rising order, each clearing bits only, the mark word
last; after it the dirty mark is cleared unless re-mark is set, the entry with START_TIME and MARK_AFTER is
made, or for a HALTED lane its cell is dropped, and the record is discarded. That GT runs on to a step's end
is the model's choice (log entry 2). -/
def Obligations.CommitSucceeds : Prop :=
  ∀ (r : NvmRecord) (c : CommitOp) (sec mark : Nat) (slice : Option SliceNo) (s : State),
    s.nvmOp = some r → r.op = .commit c → nvmWf s.nvm = true → 0 ≤ (r.stepEnd - s.gt).toInt →
    ((c.target = .directory ∧ slice = none ∧ sec = 2 ∧ mark = 79)
      ∨ ∃ n code, c.target = .slice n code ∧ slice = some n ∧ sec = 3 + n.val ∧ mark = 71) →
    (c.step = .erase → ∃ m, exec (.commitEraseEnd .success) s = .next { s with
          gt := r.stepEnd, nvm := m
          nvmOp := some
            { op := .commit { c with step := .program 0 }, startGt := r.startGt
              stepEnd := r.stepEnd + 20 } }
        ∧ ∀ a, nvmGet m a =
            if 512 * sec ≤ a ∧ a < 512 * sec + 512 then 0xFF else nvmGet s.nvm a)
    ∧ (∀ k, c.step = .program k → ∃ m,
        (∀ j, nvmWord m sec j =
          if j = k then nvmWord s.nvm sec k &&& c.image.getD k 0 else nvmWord s.nvm sec j)
        ∧ (∀ a, (a < 512 * sec + 4 * k ∨ 512 * sec + 4 * k + 4 ≤ a) → nvmGet m a = nvmGet s.nvm a)
        ∧ (k ≠ mark → exec (.commitWordProgramEnd .success) s = .next { s with
            gt := r.stepEnd, nvm := m
            nvmOp := some
              { op := .commit { c with step := .program (k + 1) }, startGt := r.startGt
                stepEnd := r.stepEnd + 20 } })
        ∧ (k = mark → ∃ u, u = { s with
              gt := r.stepEnd, nvm := m, nvmOp := none
              dirDirty := if slice = none ∧ c.remark = false then false else s.dirDirty
              directory := u.directory }
            ∧ (∀ n, u.binding n = if slice = some n ∧ c.remark = false then
                  (s.binding n).map (fun b => { b with dirty := false })
                else s.binding n)
            ∧ (c.cell = none → exec (.commitWordProgramEnd .success) s = .next u)
            ∧ (∀ x, c.cell = some x → (s.lane c.lane).state ≠ .halted →
              exec (.commitWordProgramEnd .success) s = .next { u with
                returnQueue := s.returnQueue ++
                  [{ lane := c.lane, cells := [x], status := .ok, firstDone := false
                     result := leading
                         ([(slice.map fun n => BitVec.ofNat 8 n.val).getD 0xFF,
                           if c.remark then 1 else 0, 0xFF, 0xFF] ++ leBytes32 r.startGt)
                       ++ leBytes32 r.stepEnd }] })
            ∧ (∀ x, c.cell = some x → (s.lane c.lane).state = .halted →
              ∃ t, exec (.commitWordProgramEnd .success) s = .next t ∧ CellDropped c.lane u t)))

/-- The failure of a COMMIT (R133): a failed erase or program starts the spoiling program of the mark word,
and no report is made yet; the bytes a failed step leaves are free between their bounds. When the spoiling
program has ended, with success or not, the failure is reported with lane and slice, the entry with
NVM_FAIL, START_TIME and FAIL_WORD is made, or for a HALTED lane its cell is dropped, the record is
discarded and the mark stays set. -/
def Obligations.CommitFails : Prop :=
  ∀ (r : NvmRecord) (c : CommitOp) (sec mark : Nat) (slice : Option SliceNo) (s : State),
    s.nvmOp = some r → r.op = .commit c → nvmWf s.nvm = true → 0 ≤ (r.stepEnd - s.gt).toInt →
    ((c.target = .directory ∧ slice = none ∧ sec = 2 ∧ mark = 79)
      ∨ ∃ n code, c.target = .slice n code ∧ slice = some n ∧ sec = 3 + n.val ∧ mark = 71) →
    (c.step = .erase → ∃ m, exec (.commitEraseEnd .failure) s = .next { s with
          gt := r.stepEnd, nvm := m, freeIndex := s.freeIndex + 1
          nvmOp := some
            { op := .commit { c with step := .spoil none }, startGt := r.startGt
              stepEnd := r.stepEnd + 20 } }
        ∧ nvmWord m sec 127 = 0xFFFFFFFF ∧ nvmWord m sec mark = 0xFFFFFFFF
        ∧ ∀ a, (a < 512 * sec ∨ 512 * sec + 512 ≤ a) → nvmGet m a = nvmGet s.nvm a)
    ∧ (∀ k, c.step = .program k → ∃ m, exec (.commitWordProgramEnd .failure) s = .next { s with
          gt := r.stepEnd, nvm := m, freeIndex := s.freeIndex + 1
          nvmOp := some
            { op := .commit { c with step := .spoil (some k) }, startGt := r.startGt
              stepEnd := r.stepEnd + 20 } }
        ∧ nvmWord m sec k &&& nvmWord s.nvm sec k = nvmWord m sec k
        ∧ nvmWord m sec k &&& (nvmWord s.nvm sec k &&& c.image.getD k 0)
            = nvmWord s.nvm sec k &&& c.image.getD k 0
        ∧ ∀ a, (a < 512 * sec + 4 * k ∨ 512 * sec + 4 * k + 4 ≤ a) → nvmGet m a = nvmGet s.nvm a)
    ∧ (∀ failWord x, c.step = .spoil failWord → ∃ m u,
        u = raiseReport { cls := .nvmFail, lane := some c.lane, slice := slice, slot := none }
          { s with
            gt := r.stepEnd, nvm := m
            freeIndex := if x = .success then s.freeIndex else s.freeIndex + 1 }
        ∧ (x = .success → nvmWord m sec mark = 0)
        ∧ (∀ a, (a < 512 * sec + 4 * mark ∨ 512 * sec + 4 * mark + 4 ≤ a) →
            nvmGet m a = nvmGet s.nvm a)
        ∧ (c.cell = none → exec (.spoilProgramEnd x) s = .next { u with nvmOp := none })
        ∧ (∀ y, c.cell = some y → (s.lane c.lane).state ≠ .halted →
          exec (.spoilProgramEnd x) s = .next { u with
            nvmOp := none
            returnQueue := s.returnQueue ++
              [{ lane := c.lane, cells := [y], status := .nvmFail, firstDone := false
                 result := leading
                     ([(slice.map fun n => BitVec.ofNat 8 n.val).getD 0xFF, 0xFF,
                       (failWord.map (BitVec.ofNat 8)).getD 0xFF, 0xFF] ++ leBytes32 r.startGt)
                   ++ leBytes32 r.stepEnd }] })
        ∧ (∀ y, c.cell = some y → (s.lane c.lane).state = .halted →
          ∃ t, exec (.spoilProgramEnd x) s = .next t
            ∧ CellDropped c.lane { u with nvmOp := none } t))

/-! ## The images (R126, R129, R130, R139, R140) -/

/-- A directory image, read back, is valid and gives the day, the bindings with lock flag and mark clear,
and the transport key that the snapshot held (R130, R139, R173). -/
def Obligations.DirectoryImageReadsBack : Prop :=
  ∀ (s : State) (b : Bytes), b.take 320 = wordsToBytes (directoryImage s) →
    (∀ m n x y, s.binding m = some x → s.binding n = some y → x.issuer = y.issuer → m = n) →
    (∃ x, s.binding 0 = some x ∧ x.issuer = 0) →
    (∀ k, s.transport = some k → k.key.length = 16 ∧ k.kcv.length = 3) →
    directoryValid b = true ∧ le16 b 0 = s.currentDay ∧ imageTransport b = s.transport
    ∧ ∀ n, (imageBindings b)[n] =
        (s.binding n).map fun x => { issuer := x.issuer, locked := false, dirty := false }

/-- A slice image, read back at the day of its snapshot, is valid for its issuer code and gives every slot
as the snapshot held it (R129, R140, R173). -/
def Obligations.SliceImageReadsBack : Prop :=
  ∀ (s : State) (n : SliceNo) (code : Half) (b : Bytes),
    b.take 288 = wordsToBytes (sliceImage s n code) → genLaw (s.genList n) = true →
    (∀ k, SlotSound s.currentDay (s.slot n k)) →
    sliceValid b code = true
    ∧ ∀ k, recordSlot b s.currentDay k (s.slot n k).epoch = s.slot n k

/-! ## The load (R136 to R141) -/

/-- Step 1 (R137): a valid option record gives lane limit, engine count and tamper action, and any other
gives 1, 1, ZEROIZE and OPTION_DEFAULTED; then the read of sector 1 begins, or, with the zeroize mark set,
the zeroize at the erase of sector 2. -/
def Obligations.OptionRecordRead : Prop :=
  ∀ (e : Word) (b : Bytes) (limit count : Nat) (action : TamperAction) (defaulted : Bool)
    (u s : State),
    s.load = some { step := .optionRead, stepEnd := e } → 0 ≤ (e - s.gt).toInt →
    nvmWf s.nvm = true → b = readSector s.nvm 0 →
    ((crc32 (b.take 4) = le32 b 4 ∧ 1 ≤ (byteAt b 0).toNat ∧ (byteAt b 0).toNat ≤ 16
        ∧ 1 ≤ (byteAt b 1).toNat ∧ (byteAt b 1).toNat ≤ 2
        ∧ ((byteAt b 2 = 0x01 ∧ action = .zeroize) ∨ (byteAt b 2 = 0x02 ∧ action = .faultOnly))
        ∧ limit = (byteAt b 0).toNat ∧ count = (byteAt b 1).toNat ∧ defaulted = false)
      ∨ ((crc32 (b.take 4) ≠ le32 b 4 ∨ (byteAt b 0).toNat = 0 ∨ 16 < (byteAt b 0).toNat
          ∨ (byteAt b 1).toNat = 0 ∨ 2 < (byteAt b 1).toNat
          ∨ (byteAt b 2 ≠ 0x01 ∧ byteAt b 2 ≠ 0x02))
        ∧ limit = 1 ∧ count = 1 ∧ action = .zeroize ∧ defaulted = true)) →
    u = { s with
      gt := e, laneLimit := limit, engineCount := count, tamperAction := action
      optionDefaulted := defaulted } →
    (le32 b 8 = 0xFFFFFFFF → exec .optionRecordReadEnd s =
      .next { u with load := some { step := .counterRead, stepEnd := e + 40 } })
    ∧ (le32 b 8 ≠ 0xFFFFFFFF → ∃ m, exec .optionRecordReadEnd s = .next { u with
          load := none, device := .zeroizing, nvm := m
          nvmOp := some
            { op := .zeroize (.erase 2) false, startGt := e, stepEnd := e + 12000 } }
        ∧ ∀ a, (a < 1024 ∨ 1536 ≤ a) → nvmGet m a = nvmGet s.nvm a)

/-- Steps 2 and 3 (R138, R51): the count is the number of 0 bits of words 0 to 127 of sector 1; below 4096
the lowest 1 bit is cleared by a word program, whose end, with success or not, makes the start count one more
than the count read; a failure is reported and sets EVIDENCE_EXHAUSTED, as a full counter does, and leaves
its word between its bounds (log entry 8). The end of a program whose load a FAULT_ONLY response has abandoned
begins no step (log entry 25). That GT runs on to a step's end is log entry 2. -/
def Obligations.StartCounted : Prop :=
  ∀ (e : Word) (s : State), 0 ≤ (e - s.gt).toInt → nvmWf s.nvm = true →
    (s.load = some { step := .counterRead, stepEnd := e } →
      (∀ zeros k j, k < 128 → j < 32 → (nvmWord s.nvm 1 k).getLsbD j = true →
          (∀ k', k' < k → nvmWord s.nvm 1 k' = 0) →
          (∀ j', j' < j → (nvmWord s.nvm 1 k).getLsbD j' = false) →
          zeros = ((List.range 128).map fun i =>
            ((List.range 32).filter fun b => !(nvmWord s.nvm 1 i).getLsbD b).length).sum →
        ∃ v, exec .startCounterReadEnd s = .next { s with
            gt := e, load := some { step := .counterProgram, stepEnd := e + 20 }
            nvmOp := some { op := .startCount k v zeros, startGt := e, stepEnd := e + 20 } }
          ∧ ∀ i, i < 32 → v.getLsbD i = ((nvmWord s.nvm 1 k).getLsbD i && decide (i ≠ j)))
      ∧ ((∀ k, k < 128 → nvmWord s.nvm 1 k = 0) →
        exec .startCounterReadEnd s = .next { s with
          gt := e, load := some { step := .directoryRead, stepEnd := e + 40 }
          startCount := 4096, evidenceExhausted := true }))
    ∧ (∀ k v count g next,
        s.nvmOp = some { op := .startCount k v count, startGt := g, stepEnd := e } →
        next = (if s.load = none then none else some { step := .directoryRead, stepEnd := e + 40 }) →
      (∃ m, exec (.startCountProgramEnd .success) s = .next { s with
            gt := e, load := next, nvm := m, nvmOp := none, startCount := count + 1 }
          ∧ nvmWord m 1 k = nvmWord s.nvm 1 k &&& v
          ∧ ∀ a, (a < 512 + 4 * k ∨ 512 + 4 * k + 4 ≤ a) → nvmGet m a = nvmGet s.nvm a)
      ∧ (∃ m u, u = raiseReport { cls := .nvmFail, lane := none, slice := none, slot := none }
            { s with
              gt := e, nvm := m, nvmOp := none, freeIndex := s.freeIndex + 1
              startCount := count + 1, evidenceExhausted := true }
          ∧ exec (.startCountProgramEnd .failure) s = .next { u with load := next }
          ∧ ProgramPart s.nvm m 1 k v))

/-- Steps 4 and 5 (R139, R140, R141): the directory image gives day, bindings and transport key, or, when it
is invalid, the base state with DIRECTORY_LOST; then each bound slice in rising order: its image's slots, or
8 FAULTY slots without a generation; a key whose KCV does not agree makes its slot FAULTY and is reported;
after the last the device enters STOPPED. A directory image is valid exactly when its mark and CRC hold, the
places in use have distinct codes and distinct slice numbers up to 31, one binds issuer 0x0000 to slice 0, and
the presence code is 0x5A or 0x00 (R126, R139, R173); a slice image exactly when its mark and CRC hold, its
header names the code, its classes, days and grace lie in range, and the generations it carries are distinct
and within 127 of one of them (R126, R140). After a commit that has failed, neither is valid, however its
spoiling program ends or is cut (R133, R174; log entries 8 and 29). -/
def Obligations.ImagesLoaded : Prop :=
  (∀ (e : Word) (s : State), 0 ≤ (e - s.gt).toInt →
    (s.load = some { step := .directoryRead, stepEnd := e } →
      (directoryValid (readSector s.nvm 2) = true →
        exec .directoryImageReadEnd s = .next { s with
          gt := e, load := some { step := .sliceRead 0, stepEnd := e + 40 }
          currentDay := le16 (readSector s.nvm 2) 0
          directory := imageBindings (readSector s.nvm 2), dirDirty := false
          transport := imageTransport (readSector s.nvm 2) })
      ∧ (directoryValid (readSector s.nvm 2) = false →
        exec .directoryImageReadEnd s = .next { s with
          gt := e, load := some { step := .sliceRead 0, stepEnd := e + 40 }
          currentDay := 0, directory := baseDirectory, dirDirty := false, transport := none
          directoryLost := true }))
    ∧ (∀ n b c, s.load = some { step := .sliceRead n, stepEnd := e } → s.binding n = some c →
        b = readSector s.nvm (3 + n.val) →
      ∃ slices', (∀ m k, m ≠ n → (slices'[m])[k] = s.slot m k)
        ∧ (sliceValid b c.issuer = true →
          (∀ k : SlotNo, (slices'[n])[k] = recordSlot b s.currentDay k (s.slot n k).epoch)
          ∧ exec .sliceImageReadEnd s =
              .next (loadNextKey n none { s with gt := e, slices := slices' }))
        ∧ (sliceValid b c.issuer = false →
          (∀ k : SlotNo, (slices'[n])[k] =
            { state := .faulty, info := none, key := none, epoch := (s.slot n k).epoch })
          ∧ exec .sliceImageReadEnd s =
              .next (loadNextSlice (some n) { s with gt := e, slices := slices' })))
    ∧ (∀ n k y, s.load = some { step := .kcvCheck n k, stepEnd := e } →
        (s.slot n k).key = some y →
      ((blockE y.value (List.replicate 16 0)).take 3 = y.kcv →
        exec .kcvCheckEnd s = .next (loadNextKey n (some k) { s with gt := e }))
      ∧ ((blockE y.value (List.replicate 16 0)).take 3 ≠ y.kcv →
        ∃ slices', exec .kcvCheckEnd s = .next (loadNextKey n (some k)
            (raiseReport
              { cls := .uncorrectedEcc, lane := none, slice := some n, slot := some k }
              { s with gt := e, slices := slices' }))
          ∧ (slices'[n])[k] = { s.slot n k with state := .faulty, key := none }
          ∧ ∀ m j, (m, j) ≠ (n, k) → (slices'[m])[j] = s.slot m j))
    ∧ (∀ n last, (∀ k, (s.slot n k).key ≠ none → ∃ m, last = some m ∧ k.val ≤ m.val) →
        loadNextKey n last s = loadNextSlice (some n) s)
    ∧ (∀ n last k, (s.slot n k).key ≠ none → (∀ m, last = some m → m.val < k.val) →
        (∀ j, (s.slot n j).key ≠ none → j.val < k.val → ∃ m, last = some m ∧ j.val ≤ m.val) →
        loadNextKey n last s =
          { s with load := some { step := .kcvCheck n k, stepEnd := s.gt + 5 } })
    ∧ (∀ n, (∀ m, n.val < m.val → s.binding m = none) →
        loadNextSlice (some n) s = { s with load := none, device := .stopped })
    ∧ (∀ n m, n.val < m.val → s.binding m ≠ none →
        (∀ j, n.val < j.val → j.val < m.val → s.binding j = none) →
        loadNextSlice (some n) s =
          { s with load := some { step := .sliceRead m, stepEnd := s.gt + 40 } }))
  ∧ (∀ b : Bytes, directoryValid b = true ↔
      le32 b 316 = 0x6A3C5A96 ∧ crc32 (b.take 312) = le32 b 312
      ∧ (∀ p, p < 32 → byteAt b (4 * p + 7) = 0xA5 → (byteAt b (4 * p + 6)).toNat < 32)
      ∧ (∀ p q, p < q → q < 32 → byteAt b (4 * p + 7) = 0xA5 → byteAt b (4 * q + 7) = 0xA5 →
          le16 b (4 * p + 4) ≠ le16 b (4 * q + 4) ∧ byteAt b (4 * p + 6) ≠ byteAt b (4 * q + 6))
      ∧ (∃ p, p < 32 ∧ byteAt b (4 * p + 7) = 0xA5 ∧ le16 b (4 * p + 4) = 0
          ∧ byteAt b (4 * p + 6) = 0)
      ∧ (byteAt b 151 = 0x5A ∨ byteAt b 151 = 0x00))
  ∧ (∀ (b : Bytes) (code : Half) (carries : SlotNo → Prop) (gen : SlotNo → Byte),
      (∀ k : SlotNo, carries k ↔
        1 ≤ (byteAt b (4 + 32 * k.val)).toNat ∧ (byteAt b (4 + 32 * k.val)).toNat ≤ 3) →
      (∀ k : SlotNo, gen k = byteAt b (5 + 32 * k.val)) →
      (sliceValid b code = true ↔
        le32 b 284 = 0x6A3C5A96 ∧ crc32 (b.take 280) = le32 b 280 ∧ le16 b 0 = code
        ∧ (∀ k : SlotNo, (byteAt b (4 + 32 * k.val)).toNat ≤ 4)
        ∧ (∀ k, carries k → (le16 b (8 + 32 * k.val)).toNat ≤ (le16 b (10 + 32 * k.val)).toNat
            ∧ (byteAt b (6 + 32 * k.val)).toNat ≤ 60)
        ∧ (∀ j k, j ≠ k → carries j → carries k → gen j ≠ gen k)
        ∧ ((∃ k, carries k) →
            ∃ o, carries o ∧ ∀ k, carries k → (gen k - gen o).toNat ≤ 127)))
  ∧ (∀ (o : NvmRecord) (c : CommitOp) (k : Option Nat) (command : Instr) (s t : State),
      s.nvmOp = some o → o.op = .commit c → c.step = .spoil k → nvmWf s.nvm = true →
      (command = .coldReset ∨ ∃ x, command = .spoilProgramEnd x) → exec command s = .next t →
      (c.target = .directory → directoryValid (readSector t.nvm 2) = false)
      ∧ ∀ n code code', c.target = .slice n code →
          sliceValid (readSector t.nvm (3 + n.val)) code' = false)

/-! ## The zeroize (R142) -/

/-- The steps of a zeroize (R142): the mark program sets the mark word of sector 0; then sectors 2 to 34 are
erased in rising order, whatever each reports; a mark whose program failed is programmed once more after
the last; and the part enters ZEROIZED with its directory emptied. Every failure is reported, for sectors 3
to 34 with the slice, and leaves the step done in part, in its own sector or word alone (log entries 8 and 9;
that GT runs on to a step's end is log entry 2). -/
def Obligations.ZeroizeSteps : Prop :=
  (∀ (st : ZeroizeStep) (failed : Bool) (g e : Word) (s : State),
    s.nvmOp = some { op := .zeroize st failed, startGt := g, stepEnd := e } →
    0 ≤ (e - s.gt).toInt →
    (st = .mark →
      exec (.zeroizeMarkProgramEnd .success) s = .next { s with
          gt := e, nvm := beginErase (programWord s.nvm 0 2 0) 2
          nvmOp := some { op := .zeroize (.erase 2) false, startGt := g, stepEnd := e + 12000 } }
      ∧ exec (.zeroizeMarkProgramEnd .failure) s = .next
          { raiseReport { cls := .nvmFail, lane := none, slice := none, slot := none }
              { s with
                gt := e, nvm := programWordPart s.nvm 0 2 0 (Config.freeMask s.freeIndex)
                freeIndex := s.freeIndex + 1 } with
            nvm := beginErase (programWordPart s.nvm 0 2 0 (Config.freeMask s.freeIndex)) 2
            nvmOp := some { op := .zeroize (.erase 2) true, startGt := g, stepEnd := e + 12000 } })
    ∧ (∀ sec n, st = .erase sec →
        ((sec = 2 ∧ n = none) ∨ ∃ i : SliceNo, sec = 3 + i.val ∧ n = some i) →
      ∃ u, u = raiseReport { cls := .nvmFail, lane := none, slice := n, slot := none }
          { s with
            gt := e, nvm := eraseSectorPart s.nvm sec s.freeIndex, freeIndex := s.freeIndex + 1 }
        ∧ (sec < 34 →
          exec (.zeroizeSectorEraseEnd .success) s = .next { s with
            gt := e, nvm := beginErase (eraseSector s.nvm sec) (sec + 1)
            nvmOp := some
              { op := .zeroize (.erase (sec + 1)) failed, startGt := g, stepEnd := e + 12000 } }
          ∧ exec (.zeroizeSectorEraseEnd .failure) s = .next { u with
            nvm := beginErase (eraseSectorPart s.nvm sec s.freeIndex) (sec + 1)
            nvmOp := some
              { op := .zeroize (.erase (sec + 1)) failed, startGt := g, stepEnd := e + 12000 } })
        ∧ (sec = 34 → failed = false →
          exec (.zeroizeSectorEraseEnd .success) s = .next { s with
            gt := e, nvm := eraseSector s.nvm sec, nvmOp := none, device := .zeroized
            directory := Vector.replicate 32 none }
          ∧ exec (.zeroizeSectorEraseEnd .failure) s = .next { u with
            nvmOp := none, device := .zeroized, directory := Vector.replicate 32 none })
        ∧ (sec = 34 → failed = true →
          exec (.zeroizeSectorEraseEnd .success) s = .next { s with
            gt := e, nvm := eraseSector s.nvm sec
            nvmOp := some { op := .zeroize .finalMark true, startGt := g, stepEnd := e + 20 } }
          ∧ exec (.zeroizeSectorEraseEnd .failure) s = .next { u with
            nvmOp := some { op := .zeroize .finalMark true, startGt := g, stepEnd := e + 20 } }))
    ∧ (st = .finalMark →
      exec (.zeroizeFinalMarkEnd .success) s = .next { s with
          gt := e, nvm := programWord s.nvm 0 2 0, nvmOp := none, device := .zeroized
          directory := Vector.replicate 32 none }
      ∧ exec (.zeroizeFinalMarkEnd .failure) s = .next
          { raiseReport { cls := .nvmFail, lane := none, slice := none, slot := none }
              { s with
                gt := e, nvm := programWordPart s.nvm 0 2 0 (Config.freeMask s.freeIndex)
                freeIndex := s.freeIndex + 1 } with
            nvmOp := none, device := .zeroized, directory := Vector.replicate 32 none }))
  ∧ ∀ (m : List Host.Cell) (sec use : Nat) (mask : Word), nvmWf m = true →
      nvmWord (programWord m 0 2 0) 0 2 = 0
      ∧ (∀ a, (a < 8 ∨ 12 ≤ a) → nvmGet (programWord m 0 2 0) a = nvmGet m a)
      ∧ ProgramPart m (programWordPart m 0 2 0 mask) 0 2 0
      ∧ (∀ a, nvmGet (eraseSector m sec) a =
          if 512 * sec ≤ a ∧ a < 512 * sec + 512 then 0xFF else nvmGet m a)
      ∧ ErasePart m (eraseSectorPart m sec use) sec
      ∧ ∀ a mark, mark = (if sec = 2 then 316 else 284) → nvmGet (beginErase m sec) a =
          if (512 * sec + 508 ≤ a ∧ a < 512 * sec + 512)
            ∨ (512 * sec + mark ≤ a ∧ a < 512 * sec + mark + 4) then 0xFF else nvmGet m a

/-! ## Laws that every step keeps -/

/-- What ties the device state to the operations in progress is kept by every step (R39, R141, R142, R162,
R163): a live station record read belongs to an accepted START, a START waits in STOPPED only, a load runs
in LOADING only, a zeroize in ZEROIZING only, and no engine works in LOADING, FAULTED, ZEROIZING or
ZEROIZED. -/
def Obligations.ControlLawKept : Prop :=
  ∀ s t : State, ControlLaw s → step s = .next t → ControlLaw t

/-- The lanes (R9, R11, R40, R165, R166): no lane ever holds more than 8 cells, a lane being read holds fewer,
a PAUSED lane holds none, and lane states follow the device; kept by every step that the control law
admits. -/
def Obligations.LaneLawsKept : Prop :=
  ∀ s t : State, ControlLaw s → step s = .next t →
    (HeldLaw s → HeldLaw t) ∧ (LaneLaw s → LaneLaw t)

/-- The directory, the slots and the cache (R71, R78, R81, R112), kept by every step that the control and
lane laws admit: no issuer code is bound to two slices, and issuer 0x0000 stays bound to slice 0 outside
ZEROIZED; the cache never holds more than 32 entries, nor two for one triple; a free slice is empty and the
state of a LIVE slot is the day's; the generations of every slice are distinct and within a span of 127; and
every cache entry's slot is ACTIVE or RETIRING at the entry's epoch, as long as no epoch that an engine has
captured wraps (R83, R118). -/
def Obligations.KeyStoreLawsKept : Prop :=
  ∀ s t : State, ControlLaw s → step s = .next t →
    (DirectoryLaw s → DirectoryLaw t) ∧ (CacheLaw s → CacheLaw t)
    ∧ (LaneLaw s → SlotLaw s →
        SlotLaw t
        ∧ (DirectoryLaw s → GenerationLaw s → GenerationLaw t)
        ∧ (DirectoryLaw s → NoWrapAhead s → ServingLaw s → ServingLaw t))

/-- What every step does to the array (R124, R125, R142): the memories keep their canonical form, a zeroize
erases sectors 2 to 34 only, no bit of the start counter's sector rises, and of the option record's sector
only the zeroize mark word changes. -/
def Obligations.ArrayLawKept : Prop :=
  ∀ s t : State, MemoryLaw s → ZeroizeRange s → step s = .next t →
    MemoryLaw t ∧ ZeroizeRange t
    ∧ (∀ a, 512 ≤ a → a < 1024 → nvmGet t.nvm a &&& nvmGet s.nvm a = nvmGet t.nvm a)
    ∧ ∀ a, a < 512 → (a < 8 ∨ 12 ≤ a) → nvmGet t.nvm a = nvmGet s.nvm a

/-- What only a cold reset undoes (R141, R142, R155, R158, R80): a set lock and the STATION_BASE under it,
FAULTED with TAMPER_FAULT, and ZEROIZED; and no command takes the current day back but a cold reset, a
tamper assertion and the load's directory read. -/
def Obligations.OnlyColdResetUndoes : Prop :=
  ∀ (c : Instr) (s t : State), ControlLaw s → exec c s = .next t → c ≠ .coldReset →
    (s.lock = true → t.lock = true ∧ t.stationBaseLo = s.stationBaseLo
      ∧ t.stationBaseHi = s.stationBaseHi)
    ∧ (s.device = .faulted ∧ s.tamperFault = true → t.device = .faulted ∧ t.tamperFault = true)
    ∧ (s.device = .zeroized → t.device = .zeroized)
    ∧ (c ≠ .tamperAssert ∧ c ≠ .directoryImageReadEnd → s.currentDay.toNat ≤ t.currentDay.toNat)

/-- While the device stays FAULTED, ZEROIZING or ZEROIZED no command but a cold reset moves the traffic: the
lane states, cursors, SCAN_WANTED, pending extensions and queues, the service FIFO and the take numbers stand
(R25, R28, R91). -/
def Obligations.FrozenTrafficStands : Prop :=
  ∀ (c : Instr) (s t : State), ControlLaw s → s.frozen = true → exec c s = .next t →
    c ≠ .coldReset → t.frozen = true →
    t.fifo = s.fifo ∧ t.takeCounter = s.takeCounter
    ∧ ∀ l, { t.lane l with held := 0, returnCount := 0 }
        = { s.lane l with held := 0, returnCount := 0 }

end
end

