-- ==== Sys2Proof/Laws/Memory.lean ====
section
/-! SUPPORT. The laws of the two memories: what a byte reads as after each operation, and that every
operation keeps the canonical form. -/

namespace Sys2Proof.Machine

/-! ### Listed bytes -/

theorem memGet_memPut (m : List Host.Cell) (x y : Nat) (v : Byte) :
    memGet (memPut m x v) y = if y = x then some v else memGet m y := by
  induction m with
  | nil => simp [memPut, memGet, eq_comm]
  | cons c m ih =>
    obtain ⟨a, b⟩ := c
    simp only [memPut]
    by_cases h3 : y = x
    · subst h3
      rw [if_pos rfl] at ih ⊢
      split_ifs with h1 h2
      · simp [memGet]
      · simp [memGet]
      · simp [memGet, ih, Ne.symm h2]
    · split_ifs with h1 h2
      · simp [memGet, Ne.symm h3]
      · subst h2; simp [memGet, Ne.symm h3]
      · simp [memGet, ih, h3]

/-- Every address listed in `m` lies above `x`. -/
def memAbove (x : Nat) (m : List Host.Cell) : Prop := ∀ c ∈ m, x < c.1

theorem memGet_of_above {x : Nat} {m : List Host.Cell} (h : memAbove x m) {y : Nat} (hy : y ≤ x) :
    memGet m y = none := by
  induction m with
  | nil => rfl
  | cons c m ih =>
    obtain ⟨a, b⟩ := c
    have ha : x < a := h (a, b) (by simp)
    have hne : a ≠ y := by omega
    simp only [memGet, hne, if_false]
    exact ih fun c hc => h c (by simp [hc])

theorem memSorted_cons (a : Nat) (b : Byte) (m : List Host.Cell) :
    memSorted ((a, b) :: m) = true ↔ memAbove a m ∧ memSorted m = true := by
  induction m generalizing a b with
  | nil => simp [memSorted, memAbove]
  | cons c m ih =>
    obtain ⟨a', b'⟩ := c
    simp only [memSorted, Bool.and_eq_true, decide_eq_true_eq]
    constructor
    · rintro ⟨h, hs⟩
      refine ⟨?_, hs⟩
      intro c hc
      rcases List.mem_cons.mp hc with rfl | hc
      · exact h
      · exact Nat.lt_trans h (((ih a' b').mp hs).1 c hc)
    · rintro ⟨h, hs⟩
      exact ⟨h (a', b') (by simp), hs⟩

theorem memAbove_memPut {x a : Nat} {v : Byte} {m : List Host.Cell} (h : memAbove a m) (hx : a < x) :
    memAbove a (memPut m x v) := by
  induction m with
  | nil => intro c hc; simp [memPut] at hc; subst hc; exact hx
  | cons c m ih =>
    obtain ⟨a', b'⟩ := c
    have hm : memAbove a m := fun c hc => h c (by simp [hc])
    have ha : a < a' := h (a', b') (by simp)
    simp only [memPut]
    split_ifs <;> intro c hc
    · rcases List.mem_cons.mp hc with rfl | hc
      · exact hx
      · exact h c hc
    · rcases List.mem_cons.mp hc with rfl | hc
      · exact hx
      · exact hm c hc
    · rcases List.mem_cons.mp hc with rfl | hc
      · exact ha
      · exact ih hm c hc

theorem memSorted_memPut {m : List Host.Cell} (h : memSorted m = true) (x : Nat) (v : Byte) :
    memSorted (memPut m x v) = true := by
  induction m with
  | nil => rfl
  | cons c m ih =>
    obtain ⟨a, b⟩ := c
    obtain ⟨ha, hm⟩ := (memSorted_cons a b m).mp h
    simp only [memPut]
    split_ifs with h1 h2
    · refine (memSorted_cons _ _ _).mpr ⟨?_, h⟩
      intro c hc
      rcases List.mem_cons.mp hc with rfl | hc
      · exact h1
      · exact Nat.lt_trans h1 (ha c hc)
    · subst h2
      exact (memSorted_cons _ _ _).mpr ⟨ha, hm⟩
    · exact (memSorted_cons _ _ _).mpr ⟨memAbove_memPut ha (by omega), ih hm⟩

theorem memAbove_memDrop {a x : Nat} {m : List Host.Cell} (h : memAbove a m) :
    memAbove a (memDrop m x) := by
  induction m with
  | nil => exact h
  | cons c m ih =>
    obtain ⟨a', b'⟩ := c
    have hm : memAbove a m := fun c hc => h c (by simp [hc])
    simp only [memDrop]
    split_ifs
    · exact hm
    · intro c hc
      rcases List.mem_cons.mp hc with rfl | hc
      · exact h (a', b') (by simp)
      · exact ih hm c hc

theorem memSorted_memDrop {m : List Host.Cell} (h : memSorted m = true) (x : Nat) :
    memSorted (memDrop m x) = true := by
  induction m with
  | nil => rfl
  | cons c m ih =>
    obtain ⟨a, b⟩ := c
    obtain ⟨ha, hm⟩ := (memSorted_cons a b m).mp h
    simp only [memDrop]
    split_ifs
    · exact hm
    · exact (memSorted_cons _ _ _).mpr ⟨memAbove_memDrop ha, ih hm⟩

theorem memGet_memDrop {m : List Host.Cell} (h : memSorted m = true) (x y : Nat) :
    memGet (memDrop m x) y = if y = x then none else memGet m y := by
  induction m with
  | nil => simp [memDrop, memGet]
  | cons c m ih =>
    obtain ⟨a, b⟩ := c
    obtain ⟨ha, hm⟩ := (memSorted_cons a b m).mp h
    simp only [memDrop]
    split_ifs with h1 h2 h2
    · subst h1 h2; exact memGet_of_above ha (Nat.le_refl _)
    · subst h1; simp [memGet, Ne.symm h2]
    · subst h2; simp [memGet, h1, ih hm]
    · simp [memGet, ih hm, h2]

theorem mem_memPut {m : List Host.Cell} {x : Nat} {v : Byte} {c : Host.Cell}
    (h : c ∈ memPut m x v) : c = (x, v) ∨ c ∈ m := by
  induction m with
  | nil => simpa [memPut] using h
  | cons d m ih =>
    obtain ⟨a, b⟩ := d
    simp only [memPut] at h
    split_ifs at h
    · simpa using h
    · rcases List.mem_cons.mp h with h | h
      · exact .inl h
      · exact .inr (by simp [h])
    · rcases List.mem_cons.mp h with h | h
      · exact .inr (by simp [h])
      · rcases ih h with h | h
        · exact .inl h
        · exact .inr (by simp [h])

theorem mem_memDrop {m : List Host.Cell} {x : Nat} {c : Host.Cell} (h : c ∈ memDrop m x) : c ∈ m := by
  induction m with
  | nil => simp [memDrop] at h
  | cons d m ih =>
    obtain ⟨a, b⟩ := d
    simp only [memDrop] at h
    split_ifs at h
    · simp [h]
    · rcases List.mem_cons.mp h with h | h
      · simp [h]
      · simp [ih h]

/-! ### The NVM array -/

theorem nvmWf_iff (m : List Host.Cell) :
    nvmWf m = true ↔ memSorted m = true ∧ ∀ c ∈ m, c.2 ≠ erasedByte := by
  simp [nvmWf]

/-- A byte put keeps the canonical form. -/
theorem nvmWf_nvmPut {m : List Host.Cell} (h : nvmWf m = true) (a : Nat) (v : Byte) :
    nvmWf (nvmPut m a v) = true := by
  obtain ⟨hs, he⟩ := (nvmWf_iff m).mp h
  unfold nvmPut
  split_ifs with hv
  · exact (nvmWf_iff _).mpr ⟨memSorted_memDrop hs a, fun c hc => he c (mem_memDrop hc)⟩
  · refine (nvmWf_iff _).mpr ⟨memSorted_memPut hs a v, fun c hc => ?_⟩
    rcases mem_memPut hc with rfl | hc
    · exact hv
    · exact he c hc

/-- Read after write, for one byte. -/
theorem nvmGet_nvmPut {m : List Host.Cell} (h : nvmWf m = true) (a b : Nat) (v : Byte) :
    nvmGet (nvmPut m a v) b = if b = a then v else nvmGet m b := by
  obtain ⟨hs, _⟩ := (nvmWf_iff m).mp h
  unfold nvmPut nvmGet
  split_ifs with hv hb hb
  · subst hv; simp [memGet_memDrop hs, hb]
  · simp [memGet_memDrop hs, hb]
  · simp [memGet_memPut, hb]
  · simp [memGet_memPut, hb]

theorem nvmWf_nvmPutBytes {m : List Host.Cell} (h : nvmWf m = true) (a : Nat) (v : Bytes) :
    nvmWf (nvmPutBytes m a v) = true := by
  induction v generalizing m a with
  | nil => exact h
  | cons b v ih => exact ih (nvmWf_nvmPut h a b) (a + 1)

/-- Read after write, for a run of bytes. -/
theorem nvmGet_nvmPutBytes {m : List Host.Cell} (h : nvmWf m = true) (a b : Nat) (v : Bytes) :
    nvmGet (nvmPutBytes m a v) b =
      if a ≤ b ∧ b < a + v.length then byteAt v (b - a) else nvmGet m b := by
  induction v generalizing m a with
  | nil => simp [nvmPutBytes]
  | cons c v ih =>
    simp only [nvmPutBytes, ih (nvmWf_nvmPut h a c), nvmGet_nvmPut h, List.length_cons]
    split_ifs with h1 h2 h2 h3 h3
    · have hb : b - a = (b - (a + 1)) + 1 := by omega
      simp [byteAt, hb]
    · omega
    · subst h2; simp [byteAt]
    · omega
    · have : b = a := by omega
      contradiction
    · rfl

theorem nvmWf_nvmSetWord {m : List Host.Cell} (h : nvmWf m = true) (s k : Nat) (v : Word) :
    nvmWf (nvmSetWord m s k v) = true := nvmWf_nvmPutBytes h _ _

/-- A word set changes the four bytes of its word only. -/
theorem nvmGet_nvmSetWord {m : List Host.Cell} (h : nvmWf m = true) (s k : Nat) (v : Word) (b : Nat) :
    nvmGet (nvmSetWord m s k v) b =
      if wordAddr s k ≤ b ∧ b < wordAddr s k + 4 then byteAt (leBytes32 v) (b - wordAddr s k)
      else nvmGet m b := by
  rw [nvmSetWord, nvmGet_nvmPutBytes h]
  simp [leBytes32]

theorem leBytes32_join (v : Word) :
    byteAt (leBytes32 v) 3 ++ byteAt (leBytes32 v) 2 ++ byteAt (leBytes32 v) 1 ++ byteAt (leBytes32 v) 0
      = v := by
  simp only [byteAt, leBytes32, List.getD_cons_succ, List.getD_cons_zero]
  apply BitVec.eq_of_getLsbD_eq
  intro i hi
  simp only [BitVec.getLsbD_append, BitVec.getLsbD_extractLsb']
  rcases Nat.lt_or_ge i 8 with h | h
  · simp [h]
  · rcases Nat.lt_or_ge i 16 with h2 | h2
    · have : i - 8 < 8 := by omega
      have e : 8 + (i - 8) = i := by omega
      simp [show ¬ i < 8 by omega, this, e]
    · rcases Nat.lt_or_ge i 24 with h3 | h3
      · have a1 : ¬ i - 8 < 8 := by omega
        have a2 : i - 8 - 8 < 8 := by omega
        have e : 16 + (i - 8 - 8) = i := by omega
        simp [show ¬ i < 8 by omega, a1, a2, e]
      · have a1 : ¬ i - 8 < 8 := by omega
        have a2 : ¬ i - 8 - 8 < 8 := by omega
        have a3 : i - 8 - 8 - 8 < 8 := by omega
        have e : 24 + (i - 8 - 8 - 8) = i := by omega
        simp [show ¬ i < 8 by omega, a1, a2, a3, e]

/-- Read after write, for a word of the same sector. -/
theorem nvmWord_nvmSetWord {m : List Host.Cell} (h : nvmWf m = true) (s k j : Nat) (v : Word) :
    nvmWord (nvmSetWord m s k v) s j = if j = k then v else nvmWord m s j := by
  unfold nvmWord
  simp only [nvmGet_nvmSetWord h]
  by_cases hj : j = k
  · subst hj
    have e0 : wordAddr s j - wordAddr s j = 0 := by omega
    have e1 : wordAddr s j + 1 - wordAddr s j = 1 := by omega
    have e2 : wordAddr s j + 2 - wordAddr s j = 2 := by omega
    have e3 : wordAddr s j + 3 - wordAddr s j = 3 := by omega
    simp only [e0, e1, e2, e3, if_true]
    rw [if_pos (by omega), if_pos (by omega), if_pos (by omega), if_pos (by omega)]
    exact leBytes32_join v
  · have hd : wordAddr s j + 4 ≤ wordAddr s k ∨ wordAddr s k + 4 ≤ wordAddr s j := by
      simp only [wordAddr]; omega
    rw [if_neg (by omega), if_neg (by omega), if_neg (by omega), if_neg (by omega), if_neg hj]

theorem nvmWf_programWord {m : List Host.Cell} (h : nvmWf m = true) (s k : Nat) (v : Word) :
    nvmWf (programWord m s k v) = true := nvmWf_nvmSetWord h _ _ _

theorem nvmWf_programWordPart {m : List Host.Cell} (h : nvmWf m = true) (s k : Nat) (v mask : Word) :
    nvmWf (programWordPart m s k v mask) = true := nvmWf_nvmSetWord h _ _ _

theorem nvmWf_spoilWordPart {m : List Host.Cell} (h : nvmWf m = true) (s : Nat) (mask : Word) :
    nvmWf (spoilWordPart m s mask) = true := nvmWf_nvmSetWord h _ _ _

theorem nvmWf_beginErase {m : List Host.Cell} (h : nvmWf m = true) (s : Nat) :
    nvmWf (beginErase m s) = true := nvmWf_nvmSetWord (nvmWf_nvmSetWord h _ _ _) _ _ _

theorem nvmWf_eraseSector {m : List Host.Cell} (h : nvmWf m = true) (s : Nat) :
    nvmWf (eraseSector m s) = true := nvmWf_nvmPutBytes h _ _

theorem nvmWf_eraseSectorPart {m : List Host.Cell} (h : nvmWf m = true) (s use : Nat) :
    nvmWf (eraseSectorPart m s use) = true := nvmWf_beginErase (nvmWf_nvmPutBytes h _ _) _

/-- An operation cut short keeps the canonical form. -/
theorem nvmWf_cutArray {m : List Host.Cell} (h : nvmWf m = true) (use : Nat) (op : NvmOp) :
    nvmWf (cutArray m use op) = true := by
  unfold cutArray
  split
  · split
    · exact nvmWf_eraseSectorPart h _ _
    · exact nvmWf_programWordPart h _ _ _ _
    · exact nvmWf_spoilWordPart h _ _
  · exact nvmWf_programWordPart h _ _ _ _
  · exact nvmWf_programWordPart h _ _ _ _
  · exact nvmWf_eraseSectorPart h _ _
  · exact nvmWf_programWordPart h _ _ _ _

/-- A finished erase leaves every byte of its sector 0xFF and the others as they stood. -/
theorem nvmGet_eraseSector {m : List Host.Cell} (h : nvmWf m = true) (s a : Nat) :
    nvmGet (eraseSector m s) a =
      if 512 * s ≤ a ∧ a < 512 * s + 512 then 0xFF else nvmGet m a := by
  rw [eraseSector, nvmGet_nvmPutBytes h]
  simp only [sectorBytes, List.length_replicate]
  split_ifs with hb
  · have hlt : a - 512 * s < 512 := by omega
    rw [byteAt, List.getD_replicate _ hlt]; rfl
  · rfl

/-- The two words that an erase clears first are the sector's last and its image's mark word. -/
theorem nvmGet_beginErase {m : List Host.Cell} (h : nvmWf m = true) (s a : Nat) :
    nvmGet (beginErase m s) a =
      if (wordAddr s 127 ≤ a ∧ a < wordAddr s 127 + 4)
          ∨ (wordAddr s (markWordOf s) ≤ a ∧ a < wordAddr s (markWordOf s) + 4) then 0xFF
      else nvmGet m a := by
  have hff : ∀ i, i < 4 → byteAt (leBytes32 0xFFFFFFFF) i = 0xFF := by decide
  rw [beginErase, nvmGet_nvmSetWord (nvmWf_nvmSetWord h _ _ _), nvmGet_nvmSetWord h]
  split_ifs with h1 h2 h2 h3 h3
  · exact hff _ (by omega)
  · exact absurd (.inr h1) h2
  · exact hff _ (by omega)
  · exact absurd (.inl h2) h3
  · rcases h3 with h3 | h3 <;> contradiction
  · rfl

/-- A word program leaves every byte outside its word as it stood. -/
theorem nvmGet_programWord_of_ne {m : List Host.Cell} (h : nvmWf m = true) (s k : Nat) (v : Word)
    {a : Nat} (ha : a < 512 * s + 4 * k ∨ 512 * s + 4 * k + 4 ≤ a) :
    nvmGet (programWord m s k v) a = nvmGet m a := by
  have hn : ¬ (wordAddr s k ≤ a ∧ a < wordAddr s k + 4) := by
    simp only [wordAddr, sectorBytes]; omega
  rw [programWord, nvmGet_nvmSetWord h, if_neg hn]

theorem nvmGet_programWordPart_of_ne {m : List Host.Cell} (h : nvmWf m = true) (s k : Nat)
    (v mask : Word) {a : Nat} (ha : a < 512 * s + 4 * k ∨ 512 * s + 4 * k + 4 ≤ a) :
    nvmGet (programWordPart m s k v mask) a = nvmGet m a := by
  have hn : ¬ (wordAddr s k ≤ a ∧ a < wordAddr s k + 4) := by
    simp only [wordAddr, sectorBytes]; omega
  rw [programWordPart, nvmGet_nvmSetWord h, if_neg hn]

/-- A spoiling program cut short or failed touches its word only. -/
theorem nvmGet_spoilWordPart_of_ne {m : List Host.Cell} (h : nvmWf m = true) (s : Nat) (mask : Word)
    {a : Nat} (ha : a < 512 * s + 4 * markWordOf s ∨ 512 * s + 4 * markWordOf s + 4 ≤ a) :
    nvmGet (spoilWordPart m s mask) a = nvmGet m a := by
  have hn : ¬ (wordAddr s (markWordOf s) ≤ a ∧ a < wordAddr s (markWordOf s) + 4) := by
    simp only [wordAddr, sectorBytes]; omega
  rw [spoilWordPart, nvmGet_nvmSetWord h, if_neg hn]

/-- After a spoiling program, whole or in part, the mark word is not the commit mark value (R133). -/
theorem nvmWord_spoilWordPart_ne {m : List Host.Cell} (h : nvmWf m = true) (s : Nat) (mask : Word) :
    nvmWord (spoilWordPart m s mask) s (markWordOf s) ≠ commitMark := by
  rw [spoilWordPart, nvmWord_nvmSetWord h, if_pos rfl]
  split_ifs with hc
  · decide
  · exact hc

/-- An erase cut short or failed touches its own sector only. -/
theorem nvmGet_eraseSectorPart_of_ne {m : List Host.Cell} (h : nvmWf m = true) (s use : Nat)
    {a : Nat} (ha : a < 512 * s ∨ 512 * s + 512 ≤ a) :
    nvmGet (eraseSectorPart m s use) a = nvmGet m a := by
  have hmk : markWordOf s ≤ 79 := by unfold markWordOf; split <;> omega
  have hn : ¬ ((wordAddr s 127 ≤ a ∧ a < wordAddr s 127 + 4)
      ∨ (wordAddr s (markWordOf s) ≤ a ∧ a < wordAddr s (markWordOf s) + 4)) := by
    simp only [wordAddr, sectorBytes]; omega
  have hs : ¬ (sectorBytes * s ≤ a ∧ a < sectorBytes * s + (List.map (fun i => Config.freeByte use i)
      (List.range sectorBytes)).length) := by
    simp only [sectorBytes, List.length_map, List.length_range]; omega
  rw [eraseSectorPart, nvmGet_beginErase (nvmWf_nvmPutBytes h _ _), if_neg hn,
    nvmGet_nvmPutBytes h, if_neg hs]

/-! ### What cut and failed steps leave (R125, R133, R135) -/

/-- A word whose four bytes are erased is erased. -/
theorem nvmWord_of_erased {m : List Host.Cell} {s k : Nat}
    (h : ∀ i, i < 4 → nvmGet m (wordAddr s k + i) = 0xFF) : nvmWord m s k = 0xFFFFFFFF := by
  unfold nvmWord
  rw [h 3 (by omega), h 2 (by omega), h 1 (by omega),
    show nvmGet m (wordAddr s k) = 0xFF from h 0 (by omega)]
  decide

/-- An erase cut short or failed stays within its bounds. -/
theorem erasePart_eraseSectorPart {m : List Host.Cell} (h : nvmWf m = true) (s use : Nat) :
    ErasePart m (eraseSectorPart m s use) s := by
  refine ⟨nvmWord_of_erased fun i hi => ?_, nvmWord_of_erased fun i hi => ?_,
    fun a ha => nvmGet_eraseSectorPart_of_ne h s use ha⟩ <;>
  · unfold eraseSectorPart
    rw [nvmGet_beginErase (nvmWf_nvmPutBytes h _ _)]
    exact if_pos (by unfold markWordOf; omega)

/-- A word program cut short or failed stays within its bounds. -/
theorem programPart_programWordPart {m : List Host.Cell} (h : nvmWf m = true) (s k : Nat)
    (v mask : Word) : ProgramPart m (programWordPart m s k v mask) s k v := by
  refine ⟨?_, ?_, fun a ha =>
    nvmGet_programWordPart_of_ne h s k v mask (by simpa [wordAddr, sectorBytes] using ha)⟩ <;>
  · unfold programWordPart
    rw [nvmWord_nvmSetWord h, if_pos rfl]
    ext i
    simp
    tauto

/-- A spoiling program cut short or failed stays within the bounds of a program of 0. -/
theorem programPart_spoilWordPart {m : List Host.Cell} (h : nvmWf m = true) (s : Nat) (mask : Word) :
    ProgramPart m (spoilWordPart m s mask) s (markWordOf s) 0 := by
  refine ⟨?_, by simp, fun a ha =>
    nvmGet_spoilWordPart_of_ne h s mask (by simpa [wordAddr, sectorBytes] using ha)⟩
  unfold spoilWordPart
  rw [nvmWord_nvmSetWord h, if_pos rfl]
  split_ifs
  · simp
  · ext i
    simp
    tauto

/-! ### The record of host memory -/

theorem memSorted_hostPutBytes {m : List Host.Cell} (h : memSorted m = true) (a : Nat) (v : Bytes) :
    memSorted (hostPutBytes m a v) = true := by
  induction v generalizing m a with
  | nil => exact h
  | cons b v ih => exact ih (memSorted_memPut h a b) (a + 1)

/-- Read after write, for a run of bytes of host memory. -/
theorem memGet_hostPutBytes (m : List Host.Cell) (a b : Nat) (v : Bytes) :
    memGet (hostPutBytes m a v) b =
      if a ≤ b ∧ b < a + v.length then some (byteAt v (b - a)) else memGet m b := by
  induction v generalizing m a with
  | nil => simp [hostPutBytes]
  | cons c v ih =>
    simp only [hostPutBytes, ih, memGet_memPut, List.length_cons]
    split_ifs with h1 h2 h2 h3 h3
    · have hb : b - a = (b - (a + 1)) + 1 := by omega
      simp [byteAt, hb]
    · omega
    · subst h2; simp [byteAt]
    · omega
    · have : b = a := by omega
      contradiction
    · rfl

/-- The memories of the machine right after reset are in canonical form. -/
theorem reset_memory_canonical : nvmWf State.reset.nvm = true ∧ memSorted State.reset.hostMem = true :=
  ⟨rfl, rfl⟩

end Sys2Proof.Machine
end

