-- ==== Sys2Proof/Laws/State.lean ====
section
/-! SUPPORT. One lemma per field for each named update of the state, and what the accessors give after
it. -/

namespace Sys2Proof.Machine

/-! ### `State.setLane` -/

@[simp] theorem State.setLane_pending (s : State) (l : LaneNo) (x : Lane) :
    (s.setLane l x).pending = s.pending := rfl
@[simp] theorem State.setLane_device (s : State) (l : LaneNo) (x : Lane) :
    (s.setLane l x).device = s.device := rfl
@[simp] theorem State.setLane_startResult (s : State) (l : LaneNo) (x : Lane) :
    (s.setLane l x).startResult = s.startResult := rfl
@[simp] theorem State.setLane_lock (s : State) (l : LaneNo) (x : Lane) :
    (s.setLane l x).lock = s.lock := rfl
@[simp] theorem State.setLane_stationBaseLo (s : State) (l : LaneNo) (x : Lane) :
    (s.setLane l x).stationBaseLo = s.stationBaseLo := rfl
@[simp] theorem State.setLane_stationBaseHi (s : State) (l : LaneNo) (x : Lane) :
    (s.setLane l x).stationBaseHi = s.stationBaseHi := rfl
@[simp] theorem State.setLane_lanesClamped (s : State) (l : LaneNo) (x : Lane) :
    (s.setLane l x).lanesClamped = s.lanesClamped := rfl
@[simp] theorem State.setLane_errorNoticeOff (s : State) (l : LaneNo) (x : Lane) :
    (s.setLane l x).errorNoticeOff = s.errorNoticeOff := rfl
@[simp] theorem State.setLane_optionDefaulted (s : State) (l : LaneNo) (x : Lane) :
    (s.setLane l x).optionDefaulted = s.optionDefaulted := rfl
@[simp] theorem State.setLane_directoryLost (s : State) (l : LaneNo) (x : Lane) :
    (s.setLane l x).directoryLost = s.directoryLost := rfl
@[simp] theorem State.setLane_evidenceExhausted (s : State) (l : LaneNo) (x : Lane) :
    (s.setLane l x).evidenceExhausted = s.evidenceExhausted := rfl
@[simp] theorem State.setLane_tamperFault (s : State) (l : LaneNo) (x : Lane) :
    (s.setLane l x).tamperFault = s.tamperFault := rfl
@[simp] theorem State.setLane_startReq (s : State) (l : LaneNo) (x : Lane) :
    (s.setLane l x).startReq = s.startReq := rfl
@[simp] theorem State.setLane_tamperPin (s : State) (l : LaneNo) (x : Lane) :
    (s.setLane l x).tamperPin = s.tamperPin := rfl
@[simp] theorem State.setLane_tamperAction (s : State) (l : LaneNo) (x : Lane) :
    (s.setLane l x).tamperAction = s.tamperAction := rfl
@[simp] theorem State.setLane_laneLimit (s : State) (l : LaneNo) (x : Lane) :
    (s.setLane l x).laneLimit = s.laneLimit := rfl
@[simp] theorem State.setLane_engineCount (s : State) (l : LaneNo) (x : Lane) :
    (s.setLane l x).engineCount = s.engineCount := rfl
@[simp] theorem State.setLane_load (s : State) (l : LaneNo) (x : Lane) :
    (s.setLane l x).load = s.load := rfl
@[simp] theorem State.setLane_gt (s : State) (l : LaneNo) (x : Lane) :
    (s.setLane l x).gt = s.gt := rfl
@[simp] theorem State.setLane_window (s : State) (l : LaneNo) (x : Lane) :
    (s.setLane l x).window = s.window := rfl
@[simp] theorem State.setLane_readChannel (s : State) (l : LaneNo) (x : Lane) :
    (s.setLane l x).readChannel = s.readChannel := rfl
@[simp] theorem State.setLane_lastServed (s : State) (l : LaneNo) (x : Lane) :
    (s.setLane l x).lastServed = s.lastServed := rfl
@[simp] theorem State.setLane_writeChannel (s : State) (l : LaneNo) (x : Lane) :
    (s.setLane l x).writeChannel = s.writeChannel := rfl
@[simp] theorem State.setLane_noticeList (s : State) (l : LaneNo) (x : Lane) :
    (s.setLane l x).noticeList = s.noticeList := rfl
@[simp] theorem State.setLane_noticePending (s : State) (l : LaneNo) (x : Lane) :
    (s.setLane l x).noticePending = s.noticePending := rfl
@[simp] theorem State.setLane_returnQueue (s : State) (l : LaneNo) (x : Lane) :
    (s.setLane l x).returnQueue = s.returnQueue := rfl
@[simp] theorem State.setLane_hostMem (s : State) (l : LaneNo) (x : Lane) :
    (s.setLane l x).hostMem = s.hostMem := rfl
@[simp] theorem State.setLane_lanes (s : State) (l : LaneNo) (x : Lane) :
    (s.setLane l x).lanes = s.lanes.set l x := rfl
@[simp] theorem State.setLane_takeCounter (s : State) (l : LaneNo) (x : Lane) :
    (s.setLane l x).takeCounter = s.takeCounter := rfl
@[simp] theorem State.setLane_gantryId (s : State) (l : LaneNo) (x : Lane) :
    (s.setLane l x).gantryId = s.gantryId := rfl
@[simp] theorem State.setLane_engines (s : State) (l : LaneNo) (x : Lane) :
    (s.setLane l x).engines = s.engines := rfl
@[simp] theorem State.setLane_startCount (s : State) (l : LaneNo) (x : Lane) :
    (s.setLane l x).startCount = s.startCount := rfl
@[simp] theorem State.setLane_issueCount (s : State) (l : LaneNo) (x : Lane) :
    (s.setLane l x).issueCount = s.issueCount := rfl
@[simp] theorem State.setLane_directory (s : State) (l : LaneNo) (x : Lane) :
    (s.setLane l x).directory = s.directory := rfl
@[simp] theorem State.setLane_dirDirty (s : State) (l : LaneNo) (x : Lane) :
    (s.setLane l x).dirDirty = s.dirDirty := rfl
@[simp] theorem State.setLane_slices (s : State) (l : LaneNo) (x : Lane) :
    (s.setLane l x).slices = s.slices := rfl
@[simp] theorem State.setLane_currentDay (s : State) (l : LaneNo) (x : Lane) :
    (s.setLane l x).currentDay = s.currentDay := rfl
@[simp] theorem State.setLane_transport (s : State) (l : LaneNo) (x : Lane) :
    (s.setLane l x).transport = s.transport := rfl
@[simp] theorem State.setLane_fifo (s : State) (l : LaneNo) (x : Lane) :
    (s.setLane l x).fifo = s.fifo := rfl
@[simp] theorem State.setLane_cache (s : State) (l : LaneNo) (x : Lane) :
    (s.setLane l x).cache = s.cache := rfl
@[simp] theorem State.setLane_nvm (s : State) (l : LaneNo) (x : Lane) :
    (s.setLane l x).nvm = s.nvm := rfl
@[simp] theorem State.setLane_nvmOp (s : State) (l : LaneNo) (x : Lane) :
    (s.setLane l x).nvmOp = s.nvmOp := rfl
@[simp] theorem State.setLane_errorFlags (s : State) (l : LaneNo) (x : Lane) :
    (s.setLane l x).errorFlags = s.errorFlags := rfl
@[simp] theorem State.setLane_errorLog (s : State) (l : LaneNo) (x : Lane) :
    (s.setLane l x).errorLog = s.errorLog := rfl
@[simp] theorem State.setLane_routes (s : State) (l : LaneNo) (x : Lane) :
    (s.setLane l x).routes = s.routes := rfl
@[simp] theorem State.setLane_errorNoticeAddr (s : State) (l : LaneNo) (x : Lane) :
    (s.setLane l x).errorNoticeAddr = s.errorNoticeAddr := rfl
@[simp] theorem State.setLane_freeIndex (s : State) (l : LaneNo) (x : Lane) :
    (s.setLane l x).freeIndex = s.freeIndex := rfl

/-! ### `State.setEngine` -/

@[simp] theorem State.setEngine_pending (s : State) (e : EngineNo) (w : Option EngineWork) :
    (s.setEngine e w).pending = s.pending := rfl
@[simp] theorem State.setEngine_device (s : State) (e : EngineNo) (w : Option EngineWork) :
    (s.setEngine e w).device = s.device := rfl
@[simp] theorem State.setEngine_startResult (s : State) (e : EngineNo) (w : Option EngineWork) :
    (s.setEngine e w).startResult = s.startResult := rfl
@[simp] theorem State.setEngine_lock (s : State) (e : EngineNo) (w : Option EngineWork) :
    (s.setEngine e w).lock = s.lock := rfl
@[simp] theorem State.setEngine_stationBaseLo (s : State) (e : EngineNo) (w : Option EngineWork) :
    (s.setEngine e w).stationBaseLo = s.stationBaseLo := rfl
@[simp] theorem State.setEngine_stationBaseHi (s : State) (e : EngineNo) (w : Option EngineWork) :
    (s.setEngine e w).stationBaseHi = s.stationBaseHi := rfl
@[simp] theorem State.setEngine_lanesClamped (s : State) (e : EngineNo) (w : Option EngineWork) :
    (s.setEngine e w).lanesClamped = s.lanesClamped := rfl
@[simp] theorem State.setEngine_errorNoticeOff (s : State) (e : EngineNo) (w : Option EngineWork) :
    (s.setEngine e w).errorNoticeOff = s.errorNoticeOff := rfl
@[simp] theorem State.setEngine_optionDefaulted (s : State) (e : EngineNo) (w : Option EngineWork) :
    (s.setEngine e w).optionDefaulted = s.optionDefaulted := rfl
@[simp] theorem State.setEngine_directoryLost (s : State) (e : EngineNo) (w : Option EngineWork) :
    (s.setEngine e w).directoryLost = s.directoryLost := rfl
@[simp] theorem State.setEngine_evidenceExhausted (s : State) (e : EngineNo) (w : Option EngineWork) :
    (s.setEngine e w).evidenceExhausted = s.evidenceExhausted := rfl
@[simp] theorem State.setEngine_tamperFault (s : State) (e : EngineNo) (w : Option EngineWork) :
    (s.setEngine e w).tamperFault = s.tamperFault := rfl
@[simp] theorem State.setEngine_startReq (s : State) (e : EngineNo) (w : Option EngineWork) :
    (s.setEngine e w).startReq = s.startReq := rfl
@[simp] theorem State.setEngine_tamperPin (s : State) (e : EngineNo) (w : Option EngineWork) :
    (s.setEngine e w).tamperPin = s.tamperPin := rfl
@[simp] theorem State.setEngine_tamperAction (s : State) (e : EngineNo) (w : Option EngineWork) :
    (s.setEngine e w).tamperAction = s.tamperAction := rfl
@[simp] theorem State.setEngine_laneLimit (s : State) (e : EngineNo) (w : Option EngineWork) :
    (s.setEngine e w).laneLimit = s.laneLimit := rfl
@[simp] theorem State.setEngine_engineCount (s : State) (e : EngineNo) (w : Option EngineWork) :
    (s.setEngine e w).engineCount = s.engineCount := rfl
@[simp] theorem State.setEngine_load (s : State) (e : EngineNo) (w : Option EngineWork) :
    (s.setEngine e w).load = s.load := rfl
@[simp] theorem State.setEngine_gt (s : State) (e : EngineNo) (w : Option EngineWork) :
    (s.setEngine e w).gt = s.gt := rfl
@[simp] theorem State.setEngine_window (s : State) (e : EngineNo) (w : Option EngineWork) :
    (s.setEngine e w).window = s.window := rfl
@[simp] theorem State.setEngine_readChannel (s : State) (e : EngineNo) (w : Option EngineWork) :
    (s.setEngine e w).readChannel = s.readChannel := rfl
@[simp] theorem State.setEngine_lastServed (s : State) (e : EngineNo) (w : Option EngineWork) :
    (s.setEngine e w).lastServed = s.lastServed := rfl
@[simp] theorem State.setEngine_writeChannel (s : State) (e : EngineNo) (w : Option EngineWork) :
    (s.setEngine e w).writeChannel = s.writeChannel := rfl
@[simp] theorem State.setEngine_noticeList (s : State) (e : EngineNo) (w : Option EngineWork) :
    (s.setEngine e w).noticeList = s.noticeList := rfl
@[simp] theorem State.setEngine_noticePending (s : State) (e : EngineNo) (w : Option EngineWork) :
    (s.setEngine e w).noticePending = s.noticePending := rfl
@[simp] theorem State.setEngine_returnQueue (s : State) (e : EngineNo) (w : Option EngineWork) :
    (s.setEngine e w).returnQueue = s.returnQueue := rfl
@[simp] theorem State.setEngine_hostMem (s : State) (e : EngineNo) (w : Option EngineWork) :
    (s.setEngine e w).hostMem = s.hostMem := rfl
@[simp] theorem State.setEngine_lanes (s : State) (e : EngineNo) (w : Option EngineWork) :
    (s.setEngine e w).lanes = s.lanes := rfl
@[simp] theorem State.setEngine_takeCounter (s : State) (e : EngineNo) (w : Option EngineWork) :
    (s.setEngine e w).takeCounter = s.takeCounter := rfl
@[simp] theorem State.setEngine_gantryId (s : State) (e : EngineNo) (w : Option EngineWork) :
    (s.setEngine e w).gantryId = s.gantryId := rfl
@[simp] theorem State.setEngine_engines (s : State) (e : EngineNo) (w : Option EngineWork) :
    (s.setEngine e w).engines = s.engines.set e w := rfl
@[simp] theorem State.setEngine_startCount (s : State) (e : EngineNo) (w : Option EngineWork) :
    (s.setEngine e w).startCount = s.startCount := rfl
@[simp] theorem State.setEngine_issueCount (s : State) (e : EngineNo) (w : Option EngineWork) :
    (s.setEngine e w).issueCount = s.issueCount := rfl
@[simp] theorem State.setEngine_directory (s : State) (e : EngineNo) (w : Option EngineWork) :
    (s.setEngine e w).directory = s.directory := rfl
@[simp] theorem State.setEngine_dirDirty (s : State) (e : EngineNo) (w : Option EngineWork) :
    (s.setEngine e w).dirDirty = s.dirDirty := rfl
@[simp] theorem State.setEngine_slices (s : State) (e : EngineNo) (w : Option EngineWork) :
    (s.setEngine e w).slices = s.slices := rfl
@[simp] theorem State.setEngine_currentDay (s : State) (e : EngineNo) (w : Option EngineWork) :
    (s.setEngine e w).currentDay = s.currentDay := rfl
@[simp] theorem State.setEngine_transport (s : State) (e : EngineNo) (w : Option EngineWork) :
    (s.setEngine e w).transport = s.transport := rfl
@[simp] theorem State.setEngine_fifo (s : State) (e : EngineNo) (w : Option EngineWork) :
    (s.setEngine e w).fifo = s.fifo := rfl
@[simp] theorem State.setEngine_cache (s : State) (e : EngineNo) (w : Option EngineWork) :
    (s.setEngine e w).cache = s.cache := rfl
@[simp] theorem State.setEngine_nvm (s : State) (e : EngineNo) (w : Option EngineWork) :
    (s.setEngine e w).nvm = s.nvm := rfl
@[simp] theorem State.setEngine_nvmOp (s : State) (e : EngineNo) (w : Option EngineWork) :
    (s.setEngine e w).nvmOp = s.nvmOp := rfl
@[simp] theorem State.setEngine_errorFlags (s : State) (e : EngineNo) (w : Option EngineWork) :
    (s.setEngine e w).errorFlags = s.errorFlags := rfl
@[simp] theorem State.setEngine_errorLog (s : State) (e : EngineNo) (w : Option EngineWork) :
    (s.setEngine e w).errorLog = s.errorLog := rfl
@[simp] theorem State.setEngine_routes (s : State) (e : EngineNo) (w : Option EngineWork) :
    (s.setEngine e w).routes = s.routes := rfl
@[simp] theorem State.setEngine_errorNoticeAddr (s : State) (e : EngineNo) (w : Option EngineWork) :
    (s.setEngine e w).errorNoticeAddr = s.errorNoticeAddr := rfl
@[simp] theorem State.setEngine_freeIndex (s : State) (e : EngineNo) (w : Option EngineWork) :
    (s.setEngine e w).freeIndex = s.freeIndex := rfl

/-! ### `State.setBinding` -/

@[simp] theorem State.setBinding_pending (s : State) (n : SliceNo) (b : Option Binding) :
    (s.setBinding n b).pending = s.pending := rfl
@[simp] theorem State.setBinding_device (s : State) (n : SliceNo) (b : Option Binding) :
    (s.setBinding n b).device = s.device := rfl
@[simp] theorem State.setBinding_startResult (s : State) (n : SliceNo) (b : Option Binding) :
    (s.setBinding n b).startResult = s.startResult := rfl
@[simp] theorem State.setBinding_lock (s : State) (n : SliceNo) (b : Option Binding) :
    (s.setBinding n b).lock = s.lock := rfl
@[simp] theorem State.setBinding_stationBaseLo (s : State) (n : SliceNo) (b : Option Binding) :
    (s.setBinding n b).stationBaseLo = s.stationBaseLo := rfl
@[simp] theorem State.setBinding_stationBaseHi (s : State) (n : SliceNo) (b : Option Binding) :
    (s.setBinding n b).stationBaseHi = s.stationBaseHi := rfl
@[simp] theorem State.setBinding_lanesClamped (s : State) (n : SliceNo) (b : Option Binding) :
    (s.setBinding n b).lanesClamped = s.lanesClamped := rfl
@[simp] theorem State.setBinding_errorNoticeOff (s : State) (n : SliceNo) (b : Option Binding) :
    (s.setBinding n b).errorNoticeOff = s.errorNoticeOff := rfl
@[simp] theorem State.setBinding_optionDefaulted (s : State) (n : SliceNo) (b : Option Binding) :
    (s.setBinding n b).optionDefaulted = s.optionDefaulted := rfl
@[simp] theorem State.setBinding_directoryLost (s : State) (n : SliceNo) (b : Option Binding) :
    (s.setBinding n b).directoryLost = s.directoryLost := rfl
@[simp] theorem State.setBinding_evidenceExhausted (s : State) (n : SliceNo) (b : Option Binding) :
    (s.setBinding n b).evidenceExhausted = s.evidenceExhausted := rfl
@[simp] theorem State.setBinding_tamperFault (s : State) (n : SliceNo) (b : Option Binding) :
    (s.setBinding n b).tamperFault = s.tamperFault := rfl
@[simp] theorem State.setBinding_startReq (s : State) (n : SliceNo) (b : Option Binding) :
    (s.setBinding n b).startReq = s.startReq := rfl
@[simp] theorem State.setBinding_tamperPin (s : State) (n : SliceNo) (b : Option Binding) :
    (s.setBinding n b).tamperPin = s.tamperPin := rfl
@[simp] theorem State.setBinding_tamperAction (s : State) (n : SliceNo) (b : Option Binding) :
    (s.setBinding n b).tamperAction = s.tamperAction := rfl
@[simp] theorem State.setBinding_laneLimit (s : State) (n : SliceNo) (b : Option Binding) :
    (s.setBinding n b).laneLimit = s.laneLimit := rfl
@[simp] theorem State.setBinding_engineCount (s : State) (n : SliceNo) (b : Option Binding) :
    (s.setBinding n b).engineCount = s.engineCount := rfl
@[simp] theorem State.setBinding_load (s : State) (n : SliceNo) (b : Option Binding) :
    (s.setBinding n b).load = s.load := rfl
@[simp] theorem State.setBinding_gt (s : State) (n : SliceNo) (b : Option Binding) :
    (s.setBinding n b).gt = s.gt := rfl
@[simp] theorem State.setBinding_window (s : State) (n : SliceNo) (b : Option Binding) :
    (s.setBinding n b).window = s.window := rfl
@[simp] theorem State.setBinding_readChannel (s : State) (n : SliceNo) (b : Option Binding) :
    (s.setBinding n b).readChannel = s.readChannel := rfl
@[simp] theorem State.setBinding_lastServed (s : State) (n : SliceNo) (b : Option Binding) :
    (s.setBinding n b).lastServed = s.lastServed := rfl
@[simp] theorem State.setBinding_writeChannel (s : State) (n : SliceNo) (b : Option Binding) :
    (s.setBinding n b).writeChannel = s.writeChannel := rfl
@[simp] theorem State.setBinding_noticeList (s : State) (n : SliceNo) (b : Option Binding) :
    (s.setBinding n b).noticeList = s.noticeList := rfl
@[simp] theorem State.setBinding_noticePending (s : State) (n : SliceNo) (b : Option Binding) :
    (s.setBinding n b).noticePending = s.noticePending := rfl
@[simp] theorem State.setBinding_returnQueue (s : State) (n : SliceNo) (b : Option Binding) :
    (s.setBinding n b).returnQueue = s.returnQueue := rfl
@[simp] theorem State.setBinding_hostMem (s : State) (n : SliceNo) (b : Option Binding) :
    (s.setBinding n b).hostMem = s.hostMem := rfl
@[simp] theorem State.setBinding_lanes (s : State) (n : SliceNo) (b : Option Binding) :
    (s.setBinding n b).lanes = s.lanes := rfl
@[simp] theorem State.setBinding_takeCounter (s : State) (n : SliceNo) (b : Option Binding) :
    (s.setBinding n b).takeCounter = s.takeCounter := rfl
@[simp] theorem State.setBinding_gantryId (s : State) (n : SliceNo) (b : Option Binding) :
    (s.setBinding n b).gantryId = s.gantryId := rfl
@[simp] theorem State.setBinding_engines (s : State) (n : SliceNo) (b : Option Binding) :
    (s.setBinding n b).engines = s.engines := rfl
@[simp] theorem State.setBinding_startCount (s : State) (n : SliceNo) (b : Option Binding) :
    (s.setBinding n b).startCount = s.startCount := rfl
@[simp] theorem State.setBinding_issueCount (s : State) (n : SliceNo) (b : Option Binding) :
    (s.setBinding n b).issueCount = s.issueCount := rfl
@[simp] theorem State.setBinding_directory (s : State) (n : SliceNo) (b : Option Binding) :
    (s.setBinding n b).directory = s.directory.set n b := rfl
@[simp] theorem State.setBinding_dirDirty (s : State) (n : SliceNo) (b : Option Binding) :
    (s.setBinding n b).dirDirty = s.dirDirty := rfl
@[simp] theorem State.setBinding_slices (s : State) (n : SliceNo) (b : Option Binding) :
    (s.setBinding n b).slices = s.slices := rfl
@[simp] theorem State.setBinding_currentDay (s : State) (n : SliceNo) (b : Option Binding) :
    (s.setBinding n b).currentDay = s.currentDay := rfl
@[simp] theorem State.setBinding_transport (s : State) (n : SliceNo) (b : Option Binding) :
    (s.setBinding n b).transport = s.transport := rfl
@[simp] theorem State.setBinding_fifo (s : State) (n : SliceNo) (b : Option Binding) :
    (s.setBinding n b).fifo = s.fifo := rfl
@[simp] theorem State.setBinding_cache (s : State) (n : SliceNo) (b : Option Binding) :
    (s.setBinding n b).cache = s.cache := rfl
@[simp] theorem State.setBinding_nvm (s : State) (n : SliceNo) (b : Option Binding) :
    (s.setBinding n b).nvm = s.nvm := rfl
@[simp] theorem State.setBinding_nvmOp (s : State) (n : SliceNo) (b : Option Binding) :
    (s.setBinding n b).nvmOp = s.nvmOp := rfl
@[simp] theorem State.setBinding_errorFlags (s : State) (n : SliceNo) (b : Option Binding) :
    (s.setBinding n b).errorFlags = s.errorFlags := rfl
@[simp] theorem State.setBinding_errorLog (s : State) (n : SliceNo) (b : Option Binding) :
    (s.setBinding n b).errorLog = s.errorLog := rfl
@[simp] theorem State.setBinding_routes (s : State) (n : SliceNo) (b : Option Binding) :
    (s.setBinding n b).routes = s.routes := rfl
@[simp] theorem State.setBinding_errorNoticeAddr (s : State) (n : SliceNo) (b : Option Binding) :
    (s.setBinding n b).errorNoticeAddr = s.errorNoticeAddr := rfl
@[simp] theorem State.setBinding_freeIndex (s : State) (n : SliceNo) (b : Option Binding) :
    (s.setBinding n b).freeIndex = s.freeIndex := rfl

/-! ### `State.setSlot` -/

@[simp] theorem State.setSlot_pending (s : State) (n : SliceNo) (k : SlotNo) (x : Slot) :
    (s.setSlot n k x).pending = s.pending := rfl
@[simp] theorem State.setSlot_device (s : State) (n : SliceNo) (k : SlotNo) (x : Slot) :
    (s.setSlot n k x).device = s.device := rfl
@[simp] theorem State.setSlot_startResult (s : State) (n : SliceNo) (k : SlotNo) (x : Slot) :
    (s.setSlot n k x).startResult = s.startResult := rfl
@[simp] theorem State.setSlot_lock (s : State) (n : SliceNo) (k : SlotNo) (x : Slot) :
    (s.setSlot n k x).lock = s.lock := rfl
@[simp] theorem State.setSlot_stationBaseLo (s : State) (n : SliceNo) (k : SlotNo) (x : Slot) :
    (s.setSlot n k x).stationBaseLo = s.stationBaseLo := rfl
@[simp] theorem State.setSlot_stationBaseHi (s : State) (n : SliceNo) (k : SlotNo) (x : Slot) :
    (s.setSlot n k x).stationBaseHi = s.stationBaseHi := rfl
@[simp] theorem State.setSlot_lanesClamped (s : State) (n : SliceNo) (k : SlotNo) (x : Slot) :
    (s.setSlot n k x).lanesClamped = s.lanesClamped := rfl
@[simp] theorem State.setSlot_errorNoticeOff (s : State) (n : SliceNo) (k : SlotNo) (x : Slot) :
    (s.setSlot n k x).errorNoticeOff = s.errorNoticeOff := rfl
@[simp] theorem State.setSlot_optionDefaulted (s : State) (n : SliceNo) (k : SlotNo) (x : Slot) :
    (s.setSlot n k x).optionDefaulted = s.optionDefaulted := rfl
@[simp] theorem State.setSlot_directoryLost (s : State) (n : SliceNo) (k : SlotNo) (x : Slot) :
    (s.setSlot n k x).directoryLost = s.directoryLost := rfl
@[simp] theorem State.setSlot_evidenceExhausted (s : State) (n : SliceNo) (k : SlotNo) (x : Slot) :
    (s.setSlot n k x).evidenceExhausted = s.evidenceExhausted := rfl
@[simp] theorem State.setSlot_tamperFault (s : State) (n : SliceNo) (k : SlotNo) (x : Slot) :
    (s.setSlot n k x).tamperFault = s.tamperFault := rfl
@[simp] theorem State.setSlot_startReq (s : State) (n : SliceNo) (k : SlotNo) (x : Slot) :
    (s.setSlot n k x).startReq = s.startReq := rfl
@[simp] theorem State.setSlot_tamperPin (s : State) (n : SliceNo) (k : SlotNo) (x : Slot) :
    (s.setSlot n k x).tamperPin = s.tamperPin := rfl
@[simp] theorem State.setSlot_tamperAction (s : State) (n : SliceNo) (k : SlotNo) (x : Slot) :
    (s.setSlot n k x).tamperAction = s.tamperAction := rfl
@[simp] theorem State.setSlot_laneLimit (s : State) (n : SliceNo) (k : SlotNo) (x : Slot) :
    (s.setSlot n k x).laneLimit = s.laneLimit := rfl
@[simp] theorem State.setSlot_engineCount (s : State) (n : SliceNo) (k : SlotNo) (x : Slot) :
    (s.setSlot n k x).engineCount = s.engineCount := rfl
@[simp] theorem State.setSlot_load (s : State) (n : SliceNo) (k : SlotNo) (x : Slot) :
    (s.setSlot n k x).load = s.load := rfl
@[simp] theorem State.setSlot_gt (s : State) (n : SliceNo) (k : SlotNo) (x : Slot) :
    (s.setSlot n k x).gt = s.gt := rfl
@[simp] theorem State.setSlot_window (s : State) (n : SliceNo) (k : SlotNo) (x : Slot) :
    (s.setSlot n k x).window = s.window := rfl
@[simp] theorem State.setSlot_readChannel (s : State) (n : SliceNo) (k : SlotNo) (x : Slot) :
    (s.setSlot n k x).readChannel = s.readChannel := rfl
@[simp] theorem State.setSlot_lastServed (s : State) (n : SliceNo) (k : SlotNo) (x : Slot) :
    (s.setSlot n k x).lastServed = s.lastServed := rfl
@[simp] theorem State.setSlot_writeChannel (s : State) (n : SliceNo) (k : SlotNo) (x : Slot) :
    (s.setSlot n k x).writeChannel = s.writeChannel := rfl
@[simp] theorem State.setSlot_noticeList (s : State) (n : SliceNo) (k : SlotNo) (x : Slot) :
    (s.setSlot n k x).noticeList = s.noticeList := rfl
@[simp] theorem State.setSlot_noticePending (s : State) (n : SliceNo) (k : SlotNo) (x : Slot) :
    (s.setSlot n k x).noticePending = s.noticePending := rfl
@[simp] theorem State.setSlot_returnQueue (s : State) (n : SliceNo) (k : SlotNo) (x : Slot) :
    (s.setSlot n k x).returnQueue = s.returnQueue := rfl
@[simp] theorem State.setSlot_hostMem (s : State) (n : SliceNo) (k : SlotNo) (x : Slot) :
    (s.setSlot n k x).hostMem = s.hostMem := rfl
@[simp] theorem State.setSlot_lanes (s : State) (n : SliceNo) (k : SlotNo) (x : Slot) :
    (s.setSlot n k x).lanes = s.lanes := rfl
@[simp] theorem State.setSlot_takeCounter (s : State) (n : SliceNo) (k : SlotNo) (x : Slot) :
    (s.setSlot n k x).takeCounter = s.takeCounter := rfl
@[simp] theorem State.setSlot_gantryId (s : State) (n : SliceNo) (k : SlotNo) (x : Slot) :
    (s.setSlot n k x).gantryId = s.gantryId := rfl
@[simp] theorem State.setSlot_engines (s : State) (n : SliceNo) (k : SlotNo) (x : Slot) :
    (s.setSlot n k x).engines = s.engines := rfl
@[simp] theorem State.setSlot_startCount (s : State) (n : SliceNo) (k : SlotNo) (x : Slot) :
    (s.setSlot n k x).startCount = s.startCount := rfl
@[simp] theorem State.setSlot_issueCount (s : State) (n : SliceNo) (k : SlotNo) (x : Slot) :
    (s.setSlot n k x).issueCount = s.issueCount := rfl
@[simp] theorem State.setSlot_directory (s : State) (n : SliceNo) (k : SlotNo) (x : Slot) :
    (s.setSlot n k x).directory = s.directory := rfl
@[simp] theorem State.setSlot_dirDirty (s : State) (n : SliceNo) (k : SlotNo) (x : Slot) :
    (s.setSlot n k x).dirDirty = s.dirDirty := rfl
@[simp] theorem State.setSlot_slices (s : State) (n : SliceNo) (k : SlotNo) (x : Slot) :
    (s.setSlot n k x).slices = s.slices.set n ((s.slices[n]).set k x) := rfl
@[simp] theorem State.setSlot_currentDay (s : State) (n : SliceNo) (k : SlotNo) (x : Slot) :
    (s.setSlot n k x).currentDay = s.currentDay := rfl
@[simp] theorem State.setSlot_transport (s : State) (n : SliceNo) (k : SlotNo) (x : Slot) :
    (s.setSlot n k x).transport = s.transport := rfl
@[simp] theorem State.setSlot_fifo (s : State) (n : SliceNo) (k : SlotNo) (x : Slot) :
    (s.setSlot n k x).fifo = s.fifo := rfl
@[simp] theorem State.setSlot_cache (s : State) (n : SliceNo) (k : SlotNo) (x : Slot) :
    (s.setSlot n k x).cache = s.cache := rfl
@[simp] theorem State.setSlot_nvm (s : State) (n : SliceNo) (k : SlotNo) (x : Slot) :
    (s.setSlot n k x).nvm = s.nvm := rfl
@[simp] theorem State.setSlot_nvmOp (s : State) (n : SliceNo) (k : SlotNo) (x : Slot) :
    (s.setSlot n k x).nvmOp = s.nvmOp := rfl
@[simp] theorem State.setSlot_errorFlags (s : State) (n : SliceNo) (k : SlotNo) (x : Slot) :
    (s.setSlot n k x).errorFlags = s.errorFlags := rfl
@[simp] theorem State.setSlot_errorLog (s : State) (n : SliceNo) (k : SlotNo) (x : Slot) :
    (s.setSlot n k x).errorLog = s.errorLog := rfl
@[simp] theorem State.setSlot_routes (s : State) (n : SliceNo) (k : SlotNo) (x : Slot) :
    (s.setSlot n k x).routes = s.routes := rfl
@[simp] theorem State.setSlot_errorNoticeAddr (s : State) (n : SliceNo) (k : SlotNo) (x : Slot) :
    (s.setSlot n k x).errorNoticeAddr = s.errorNoticeAddr := rfl
@[simp] theorem State.setSlot_freeIndex (s : State) (n : SliceNo) (k : SlotNo) (x : Slot) :
    (s.setSlot n k x).freeIndex = s.freeIndex := rfl

/-! ### `State.tick` -/

@[simp] theorem State.tick_pending (s : State) :
    (s.tick).pending = s.pending := rfl
@[simp] theorem State.tick_device (s : State) :
    (s.tick).device = s.device := rfl
@[simp] theorem State.tick_startResult (s : State) :
    (s.tick).startResult = s.startResult := rfl
@[simp] theorem State.tick_lock (s : State) :
    (s.tick).lock = s.lock := rfl
@[simp] theorem State.tick_stationBaseLo (s : State) :
    (s.tick).stationBaseLo = s.stationBaseLo := rfl
@[simp] theorem State.tick_stationBaseHi (s : State) :
    (s.tick).stationBaseHi = s.stationBaseHi := rfl
@[simp] theorem State.tick_lanesClamped (s : State) :
    (s.tick).lanesClamped = s.lanesClamped := rfl
@[simp] theorem State.tick_errorNoticeOff (s : State) :
    (s.tick).errorNoticeOff = s.errorNoticeOff := rfl
@[simp] theorem State.tick_optionDefaulted (s : State) :
    (s.tick).optionDefaulted = s.optionDefaulted := rfl
@[simp] theorem State.tick_directoryLost (s : State) :
    (s.tick).directoryLost = s.directoryLost := rfl
@[simp] theorem State.tick_evidenceExhausted (s : State) :
    (s.tick).evidenceExhausted = s.evidenceExhausted := rfl
@[simp] theorem State.tick_tamperFault (s : State) :
    (s.tick).tamperFault = s.tamperFault := rfl
@[simp] theorem State.tick_startReq (s : State) :
    (s.tick).startReq = s.startReq := rfl
@[simp] theorem State.tick_tamperPin (s : State) :
    (s.tick).tamperPin = s.tamperPin := rfl
@[simp] theorem State.tick_tamperAction (s : State) :
    (s.tick).tamperAction = s.tamperAction := rfl
@[simp] theorem State.tick_laneLimit (s : State) :
    (s.tick).laneLimit = s.laneLimit := rfl
@[simp] theorem State.tick_engineCount (s : State) :
    (s.tick).engineCount = s.engineCount := rfl
@[simp] theorem State.tick_load (s : State) :
    (s.tick).load = s.load := rfl
@[simp] theorem State.tick_gt (s : State) :
    (s.tick).gt = s.gt + 1 := rfl
@[simp] theorem State.tick_window (s : State) :
    (s.tick).window = s.window := rfl
@[simp] theorem State.tick_readChannel (s : State) :
    (s.tick).readChannel = s.readChannel := rfl
@[simp] theorem State.tick_lastServed (s : State) :
    (s.tick).lastServed = s.lastServed := rfl
@[simp] theorem State.tick_writeChannel (s : State) :
    (s.tick).writeChannel = s.writeChannel := rfl
@[simp] theorem State.tick_noticeList (s : State) :
    (s.tick).noticeList = s.noticeList := rfl
@[simp] theorem State.tick_noticePending (s : State) :
    (s.tick).noticePending = s.noticePending := rfl
@[simp] theorem State.tick_returnQueue (s : State) :
    (s.tick).returnQueue = s.returnQueue := rfl
@[simp] theorem State.tick_hostMem (s : State) :
    (s.tick).hostMem = s.hostMem := rfl
@[simp] theorem State.tick_lanes (s : State) :
    (s.tick).lanes = s.lanes := rfl
@[simp] theorem State.tick_takeCounter (s : State) :
    (s.tick).takeCounter = s.takeCounter := rfl
@[simp] theorem State.tick_gantryId (s : State) :
    (s.tick).gantryId = s.gantryId := rfl
@[simp] theorem State.tick_engines (s : State) :
    (s.tick).engines = s.engines := rfl
@[simp] theorem State.tick_startCount (s : State) :
    (s.tick).startCount = s.startCount := rfl
@[simp] theorem State.tick_issueCount (s : State) :
    (s.tick).issueCount = s.issueCount := rfl
@[simp] theorem State.tick_directory (s : State) :
    (s.tick).directory = s.directory := rfl
@[simp] theorem State.tick_dirDirty (s : State) :
    (s.tick).dirDirty = s.dirDirty := rfl
@[simp] theorem State.tick_slices (s : State) :
    (s.tick).slices = s.slices := rfl
@[simp] theorem State.tick_currentDay (s : State) :
    (s.tick).currentDay = s.currentDay := rfl
@[simp] theorem State.tick_transport (s : State) :
    (s.tick).transport = s.transport := rfl
@[simp] theorem State.tick_fifo (s : State) :
    (s.tick).fifo = s.fifo := rfl
@[simp] theorem State.tick_cache (s : State) :
    (s.tick).cache = s.cache := rfl
@[simp] theorem State.tick_nvm (s : State) :
    (s.tick).nvm = s.nvm := rfl
@[simp] theorem State.tick_nvmOp (s : State) :
    (s.tick).nvmOp = s.nvmOp := rfl
@[simp] theorem State.tick_errorFlags (s : State) :
    (s.tick).errorFlags = s.errorFlags := rfl
@[simp] theorem State.tick_errorLog (s : State) :
    (s.tick).errorLog = s.errorLog := rfl
@[simp] theorem State.tick_routes (s : State) :
    (s.tick).routes = s.routes := rfl
@[simp] theorem State.tick_errorNoticeAddr (s : State) :
    (s.tick).errorNoticeAddr = s.errorNoticeAddr := rfl
@[simp] theorem State.tick_freeIndex (s : State) :
    (s.tick).freeIndex = s.freeIndex := rfl

/-! ### `State.runTo` -/

@[simp] theorem State.runTo_pending (s : State) (t : Word) :
    (s.runTo t).pending = s.pending := rfl
@[simp] theorem State.runTo_device (s : State) (t : Word) :
    (s.runTo t).device = s.device := rfl
@[simp] theorem State.runTo_startResult (s : State) (t : Word) :
    (s.runTo t).startResult = s.startResult := rfl
@[simp] theorem State.runTo_lock (s : State) (t : Word) :
    (s.runTo t).lock = s.lock := rfl
@[simp] theorem State.runTo_stationBaseLo (s : State) (t : Word) :
    (s.runTo t).stationBaseLo = s.stationBaseLo := rfl
@[simp] theorem State.runTo_stationBaseHi (s : State) (t : Word) :
    (s.runTo t).stationBaseHi = s.stationBaseHi := rfl
@[simp] theorem State.runTo_lanesClamped (s : State) (t : Word) :
    (s.runTo t).lanesClamped = s.lanesClamped := rfl
@[simp] theorem State.runTo_errorNoticeOff (s : State) (t : Word) :
    (s.runTo t).errorNoticeOff = s.errorNoticeOff := rfl
@[simp] theorem State.runTo_optionDefaulted (s : State) (t : Word) :
    (s.runTo t).optionDefaulted = s.optionDefaulted := rfl
@[simp] theorem State.runTo_directoryLost (s : State) (t : Word) :
    (s.runTo t).directoryLost = s.directoryLost := rfl
@[simp] theorem State.runTo_evidenceExhausted (s : State) (t : Word) :
    (s.runTo t).evidenceExhausted = s.evidenceExhausted := rfl
@[simp] theorem State.runTo_tamperFault (s : State) (t : Word) :
    (s.runTo t).tamperFault = s.tamperFault := rfl
@[simp] theorem State.runTo_startReq (s : State) (t : Word) :
    (s.runTo t).startReq = s.startReq := rfl
@[simp] theorem State.runTo_tamperPin (s : State) (t : Word) :
    (s.runTo t).tamperPin = s.tamperPin := rfl
@[simp] theorem State.runTo_tamperAction (s : State) (t : Word) :
    (s.runTo t).tamperAction = s.tamperAction := rfl
@[simp] theorem State.runTo_laneLimit (s : State) (t : Word) :
    (s.runTo t).laneLimit = s.laneLimit := rfl
@[simp] theorem State.runTo_engineCount (s : State) (t : Word) :
    (s.runTo t).engineCount = s.engineCount := rfl
@[simp] theorem State.runTo_load (s : State) (t : Word) :
    (s.runTo t).load = s.load := rfl
@[simp] theorem State.runTo_gt (s : State) (t : Word) :
    (s.runTo t).gt = if 0 < signedDist s.gt t then t else s.gt := rfl
@[simp] theorem State.runTo_window (s : State) (t : Word) :
    (s.runTo t).window = s.window := rfl
@[simp] theorem State.runTo_readChannel (s : State) (t : Word) :
    (s.runTo t).readChannel = s.readChannel := rfl
@[simp] theorem State.runTo_lastServed (s : State) (t : Word) :
    (s.runTo t).lastServed = s.lastServed := rfl
@[simp] theorem State.runTo_writeChannel (s : State) (t : Word) :
    (s.runTo t).writeChannel = s.writeChannel := rfl
@[simp] theorem State.runTo_noticeList (s : State) (t : Word) :
    (s.runTo t).noticeList = s.noticeList := rfl
@[simp] theorem State.runTo_noticePending (s : State) (t : Word) :
    (s.runTo t).noticePending = s.noticePending := rfl
@[simp] theorem State.runTo_returnQueue (s : State) (t : Word) :
    (s.runTo t).returnQueue = s.returnQueue := rfl
@[simp] theorem State.runTo_hostMem (s : State) (t : Word) :
    (s.runTo t).hostMem = s.hostMem := rfl
@[simp] theorem State.runTo_lanes (s : State) (t : Word) :
    (s.runTo t).lanes = s.lanes := rfl
@[simp] theorem State.runTo_takeCounter (s : State) (t : Word) :
    (s.runTo t).takeCounter = s.takeCounter := rfl
@[simp] theorem State.runTo_gantryId (s : State) (t : Word) :
    (s.runTo t).gantryId = s.gantryId := rfl
@[simp] theorem State.runTo_engines (s : State) (t : Word) :
    (s.runTo t).engines = s.engines := rfl
@[simp] theorem State.runTo_startCount (s : State) (t : Word) :
    (s.runTo t).startCount = s.startCount := rfl
@[simp] theorem State.runTo_issueCount (s : State) (t : Word) :
    (s.runTo t).issueCount = s.issueCount := rfl
@[simp] theorem State.runTo_directory (s : State) (t : Word) :
    (s.runTo t).directory = s.directory := rfl
@[simp] theorem State.runTo_dirDirty (s : State) (t : Word) :
    (s.runTo t).dirDirty = s.dirDirty := rfl
@[simp] theorem State.runTo_slices (s : State) (t : Word) :
    (s.runTo t).slices = s.slices := rfl
@[simp] theorem State.runTo_currentDay (s : State) (t : Word) :
    (s.runTo t).currentDay = s.currentDay := rfl
@[simp] theorem State.runTo_transport (s : State) (t : Word) :
    (s.runTo t).transport = s.transport := rfl
@[simp] theorem State.runTo_fifo (s : State) (t : Word) :
    (s.runTo t).fifo = s.fifo := rfl
@[simp] theorem State.runTo_cache (s : State) (t : Word) :
    (s.runTo t).cache = s.cache := rfl
@[simp] theorem State.runTo_nvm (s : State) (t : Word) :
    (s.runTo t).nvm = s.nvm := rfl
@[simp] theorem State.runTo_nvmOp (s : State) (t : Word) :
    (s.runTo t).nvmOp = s.nvmOp := rfl
@[simp] theorem State.runTo_errorFlags (s : State) (t : Word) :
    (s.runTo t).errorFlags = s.errorFlags := rfl
@[simp] theorem State.runTo_errorLog (s : State) (t : Word) :
    (s.runTo t).errorLog = s.errorLog := rfl
@[simp] theorem State.runTo_routes (s : State) (t : Word) :
    (s.runTo t).routes = s.routes := rfl
@[simp] theorem State.runTo_errorNoticeAddr (s : State) (t : Word) :
    (s.runTo t).errorNoticeAddr = s.errorNoticeAddr := rfl
@[simp] theorem State.runTo_freeIndex (s : State) (t : Word) :
    (s.runTo t).freeIndex = s.freeIndex := rfl

/-! ### Accessors -/

@[simp] theorem State.lane_setLane (s : State) (l m : LaneNo) (x : Lane) :
    (s.setLane l x).lane m = if m = l then x else s.lane m := by
  simp only [State.lane, State.setLane, Fin.getElem_fin, Vector.getElem_set, Fin.ext_iff]
  simp [eq_comm]

@[simp] theorem State.engine_setEngine (s : State) (e f : EngineNo) (w : Option EngineWork) :
    (s.setEngine e w).engine f = if f = e then w else s.engine f := by
  simp only [State.engine, State.setEngine, Fin.getElem_fin, Vector.getElem_set, Fin.ext_iff]
  simp [eq_comm]

@[simp] theorem State.binding_setBinding (s : State) (n m : SliceNo) (b : Option Binding) :
    (s.setBinding n b).binding m = if m = n then b else s.binding m := by
  simp only [State.binding, State.setBinding, Fin.getElem_fin, Vector.getElem_set, Fin.ext_iff]
  simp [eq_comm]

@[simp] theorem State.slot_setSlot (s : State) (n m : SliceNo) (k j : SlotNo) (x : Slot) :
    (s.setSlot n k x).slot m j = if m = n ∧ j = k then x else s.slot m j := by
  by_cases h : n = m
  · subst h
    simp only [State.slot, State.setSlot, Fin.getElem_fin, Vector.getElem_set_self,
      Vector.getElem_set, Fin.ext_iff, true_and]
    simp [eq_comm]
  · have h' : ¬ m = n := fun e => h e.symm
    have hv : n.val ≠ m.val := fun e => h (Fin.ext e)
    simp [State.slot, State.setSlot, h', hv]

@[simp] theorem State.lane_setEngine (s : State) (e : EngineNo) (w : Option EngineWork) (i : LaneNo) :
    (s.setEngine e w).lane i = s.lane i := rfl
@[simp] theorem State.lane_setBinding (s : State) (n : SliceNo) (b : Option Binding) (i : LaneNo) :
    (s.setBinding n b).lane i = s.lane i := rfl
@[simp] theorem State.lane_setSlot (s : State) (n : SliceNo) (k : SlotNo) (x : Slot) (i : LaneNo) :
    (s.setSlot n k x).lane i = s.lane i := rfl
@[simp] theorem State.lane_tick (s : State) (i : LaneNo) :
    (s.tick).lane i = s.lane i := rfl
@[simp] theorem State.lane_runTo (s : State) (t : Word) (i : LaneNo) :
    (s.runTo t).lane i = s.lane i := rfl
@[simp] theorem State.engine_setLane (s : State) (l : LaneNo) (x : Lane) (i : EngineNo) :
    (s.setLane l x).engine i = s.engine i := rfl
@[simp] theorem State.engine_setBinding (s : State) (n : SliceNo) (b : Option Binding) (i : EngineNo) :
    (s.setBinding n b).engine i = s.engine i := rfl
@[simp] theorem State.engine_setSlot (s : State) (n : SliceNo) (k : SlotNo) (x : Slot) (i : EngineNo) :
    (s.setSlot n k x).engine i = s.engine i := rfl
@[simp] theorem State.engine_tick (s : State) (i : EngineNo) :
    (s.tick).engine i = s.engine i := rfl
@[simp] theorem State.engine_runTo (s : State) (t : Word) (i : EngineNo) :
    (s.runTo t).engine i = s.engine i := rfl
@[simp] theorem State.binding_setLane (s : State) (l : LaneNo) (x : Lane) (i : SliceNo) :
    (s.setLane l x).binding i = s.binding i := rfl
@[simp] theorem State.binding_setEngine (s : State) (e : EngineNo) (w : Option EngineWork) (i : SliceNo) :
    (s.setEngine e w).binding i = s.binding i := rfl
@[simp] theorem State.binding_setSlot (s : State) (n : SliceNo) (k : SlotNo) (x : Slot) (i : SliceNo) :
    (s.setSlot n k x).binding i = s.binding i := rfl
@[simp] theorem State.binding_tick (s : State) (i : SliceNo) :
    (s.tick).binding i = s.binding i := rfl
@[simp] theorem State.binding_runTo (s : State) (t : Word) (i : SliceNo) :
    (s.runTo t).binding i = s.binding i := rfl
@[simp] theorem State.slot_setLane (s : State) (l : LaneNo) (x : Lane) (i : SliceNo) (j : SlotNo) :
    (s.setLane l x).slot i j = s.slot i j := rfl
@[simp] theorem State.slot_setEngine (s : State) (e : EngineNo) (w : Option EngineWork) (i : SliceNo) (j : SlotNo) :
    (s.setEngine e w).slot i j = s.slot i j := rfl
@[simp] theorem State.slot_setBinding (s : State) (n : SliceNo) (b : Option Binding) (i : SliceNo) (j : SlotNo) :
    (s.setBinding n b).slot i j = s.slot i j := rfl
@[simp] theorem State.slot_tick (s : State) (i : SliceNo) (j : SlotNo) :
    (s.tick).slot i j = s.slot i j := rfl
@[simp] theorem State.slot_runTo (s : State) (t : Word) (i : SliceNo) (j : SlotNo) :
    (s.runTo t).slot i j = s.slot i j := rfl

/-! ### Accessors after an update written out -/

/-- A lane read after one lane was set, whatever else the update wrote. -/
theorem State.lane_of_set {s t : State} {l : LaneNo} {x : Lane} (h : t.lanes = s.lanes.set l x)
    (m : LaneNo) : t.lane m = if m = l then x else s.lane m := by
  rw [← State.lane_setLane]; simp only [State.lane, State.setLane, h]

/-- An engine read after one engine was set, whatever else the update wrote. -/
theorem State.engine_of_set {s t : State} {e : EngineNo} {w : Option EngineWork}
    (h : t.engines = s.engines.set e w) (f : EngineNo) :
    t.engine f = if f = e then w else s.engine f := by
  rw [← State.engine_setEngine]; simp only [State.engine, State.setEngine, h]

/-- A directory entry read after one was set, whatever else the update wrote. -/
theorem State.binding_of_set {s t : State} {n : SliceNo} {b : Option Binding}
    (h : t.directory = s.directory.set n b) (m : SliceNo) :
    t.binding m = if m = n then b else s.binding m := by
  rw [← State.binding_setBinding]; simp only [State.binding, State.setBinding, h]

/-- Lanes read the same where the lanes are the same. -/
theorem State.lane_congr {s t : State} (h : t.lanes = s.lanes) (l : LaneNo) :
    t.lane l = s.lane l := by
  simp only [State.lane, h]

/-- Engines read the same where the engines are the same. -/
theorem State.engine_congr {s t : State} (h : t.engines = s.engines) (e : EngineNo) :
    t.engine e = s.engine e := by
  simp only [State.engine, h]

/-- Directory entries read the same where the directory is the same. -/
theorem State.binding_congr {s t : State} (h : t.directory = s.directory) (n : SliceNo) :
    t.binding n = s.binding n := by
  simp only [State.binding, h]

/-- Slots read the same where the slices are the same. -/
theorem State.slot_congr {s t : State} (h : t.slices = s.slices) (n : SliceNo) (k : SlotNo) :
    t.slot n k = s.slot n k := by
  simp only [State.slot, h]

end Sys2Proof.Machine
end

