-- ==== Sys2Proof/Laws/Ops.lean ====
section
/-! SUPPORT. For each shared operation, what it can do, said once: the cases that its conditions
distinguish, or the fields that it can change. Later proofs cite these and unfold nothing. -/

namespace Sys2Proof.Machine

/-! ### Time -/

/-- A step's end that is not past: GT is then that time. -/
theorem runTo_of_ahead (s : State) (t : Word) (h : 0 ≤ (t - s.gt).toInt) :
    s.runTo t = { s with gt := t } := by
  unfold State.runTo signedDist
  split_ifs with h0
  · rfl
  · have hz : (t - s.gt).toInt = 0 := by omega
    have hz' : t - s.gt = 0 := by
      apply BitVec.eq_of_toInt_eq; simpa using hz
    have e : t = s.gt := by
      have := congrArg (· + s.gt) hz'
      simpa using this
    rw [e]

/-! ### The end of a drain and of STOPPING (R43, R166) -/

/-- Entry to STOPPED disables every lane and changes nothing else of it. -/
theorem enterStopped_lane (m : LaneNo) (s : State) :
    (enterStopped s).lane m = { s.lane m with state := .disabled } := by
  show (Vector.ofFn _)[m] = _
  simp

/-- A lane's fall of held cells ends in one of four ways: nothing more, a drain ended, STOPPING ended,
or both. -/
theorem settle_cases (l : LaneNo) (s : State) :
    settle l s = s
    ∨ (s.frozen = false ∧ (s.lane l).state = .draining ∧ (s.lane l).held = 0
        ∧ settle l s = s.setLane l { s.lane l with state := .paused })
    ∨ (s.device = .stopping ∧ s.noneHeld = true ∧ settle l s = enterStopped s)
    ∨ (s.device = .stopping ∧ (s.lane l).state = .draining ∧ (s.lane l).held = 0
        ∧ (s.setLane l { s.lane l with state := .paused }).noneHeld = true
        ∧ settle l s = enterStopped (s.setLane l { s.lane l with state := .paused })) := by
  unfold settle endStopping
  split_ifs with h1 h2 h3 h3
  · exact .inl rfl
  · exact .inr (.inr (.inr ⟨h3.1, h2.1, h2.2, h3.2, rfl⟩))
  · exact .inr (.inl ⟨by simpa using h1, h2.1, h2.2, rfl⟩)
  · exact .inr (.inr (.inl ⟨h3.1, h3.2, rfl⟩))
  · exact .inl rfl

/-- Settling changes lanes and the device state only. -/
theorem settle_frame (l : LaneNo) (s : State) :
    settle l s = { s with lanes := (settle l s).lanes, device := (settle l s).device } := by
  rcases settle_cases l s with h | ⟨_, _, _, h⟩ | ⟨_, _, h⟩ | ⟨_, _, _, _, h⟩ <;> rw [h] <;> rfl

/-- Of a lane, settling changes the state only. -/
theorem settle_lane (l m : LaneNo) (s : State) :
    (settle l s).lane m = { s.lane m with state := ((settle l s).lane m).state } := by
  rcases settle_cases l s with h | ⟨_, _, _, h⟩ | ⟨_, _, h⟩ | ⟨_, _, _, _, h⟩ <;> rw [h]
  · rw [State.lane_setLane]; split_ifs with e <;> simp_all
  · rw [enterStopped_lane]
  · rw [enterStopped_lane, State.lane_setLane]; split_ifs with e <;> simp_all

/-- The device leaves STOPPING only, and for STOPPED only. -/
theorem settle_device (l : LaneNo) (s : State) :
    (settle l s).device = s.device ∨ (s.device = .stopping ∧ (settle l s).device = .stopped) := by
  rcases settle_cases l s with h | ⟨_, _, _, h⟩ | ⟨hd, _, h⟩ | ⟨hd, _, _, _, h⟩ <;> rw [h]
  · exact .inl rfl
  · exact .inl rfl
  · exact .inr ⟨hd, rfl⟩
  · exact .inr ⟨hd, rfl⟩

/-- No lane holds a cell, lane by lane. -/
theorem noneHeld_iff (s : State) : s.noneHeld = true ↔ ∀ m, (s.lane m).held = 0 := by
  have h : ∀ m : LaneNo, m ∈ allLanes := by decide
  simp only [State.noneHeld, List.all_eq_true, beq_iff_eq]
  exact ⟨fun g m => g m (h m), fun g m _ => g m⟩

/-- Settling a lane that is not DRAINING does nothing while STOPPING has not ended. -/
theorem settle_of_not_draining (l : LaneNo) (s : State) (h : (s.lane l).state ≠ .draining)
    (hs : s.device ≠ .stopping ∨ ∃ m, (s.lane m).held ≠ 0) : settle l s = s := by
  unfold settle endStopping
  split_ifs with h1 h2 h3
  · rfl
  · exact absurd h2.1 h
  · exact absurd h2.1 h
  · rcases hs with hs | ⟨m, hm⟩
    · exact absurd (by assumption : s.device = .stopping ∧ _).1 hs
    · exact absurd ((noneHeld_iff s).1 (by assumption : s.device = .stopping ∧ _).2 m) hm
  · rfl

/-- In STOPPING, settling with no cell held enters STOPPED. -/
theorem settle_ends_stopping (l : LaneNo) (s : State) (h : (s.lane l).state ≠ .draining)
    (hd : s.device = .stopping) (h0 : ∀ m, (s.lane m).held = 0) : settle l s = enterStopped s := by
  unfold settle
  rw [if_neg (by simp [State.frozen, hd]), if_neg (by simp [h])]
  exact if_pos ⟨hd, (noneHeld_iff s).2 h0⟩

/-- Held cells released change lanes and the device state only. -/
theorem releaseCells_frame (l : LaneNo) (n : Nat) (s : State) :
    releaseCells l n s =
      { s with lanes := (releaseCells l n s).lanes, device := (releaseCells l n s).device } := by
  conv_lhs => rw [releaseCells, settle_frame]
  rfl

/-! ### Return entries (R19) -/

/-- An entry is appended, or for a HALTED lane its cells are released. -/
theorem makeEntry_cases (e : ReturnEntry) (s : State) :
    ((s.lane e.lane).state ≠ .halted
        ∧ makeEntry e s = { s with returnQueue := s.returnQueue ++ [e] })
    ∨ ((s.lane e.lane).state = .halted
        ∧ makeEntry e s = releaseCells e.lane e.cells.length s) := by
  unfold makeEntry
  split_ifs with h
  · exact .inr ⟨h, rfl⟩
  · exact .inl ⟨h, rfl⟩

/-- An entry made changes the return queue, lanes and the device state only. -/
theorem makeEntry_frame (e : ReturnEntry) (s : State) :
    makeEntry e s =
      { s with
        lanes := (makeEntry e s).lanes, device := (makeEntry e s).device
        returnQueue := (makeEntry e s).returnQueue } := by
  rcases makeEntry_cases e s with ⟨_, h⟩ | ⟨_, h⟩ <;> rw [h]
  rw [releaseCells_frame]

/-! ### Reports (R144 to R152) -/

/-- A report is recorded, with an error notice raised, or with the device FAULTED by a HALT route. -/
theorem raiseReport_cases (r : Report) (s : State) :
    raiseReport r s = recordReport r s
    ∨ raiseReport r s = raiseErrorNotice r.cls (recordReport r s)
    ∨ (s.haltable = true ∧ routeOf s.routes r.cls = .halt
        ∧ raiseReport r s = enterFaulted (recordReport r s)) := by
  unfold raiseReport
  split
  · exact .inl rfl
  · split_ifs
    · exact .inl rfl
    · exact .inr (.inl rfl)
  · rename_i h
    split_ifs with hh
    · exact .inr (.inr ⟨hh, h, rfl⟩)
    · exact .inl rfl

/-- What a report can change. -/
theorem raiseReport_frame (r : Report) (s : State) :
    raiseReport r s =
      { s with
        device := (raiseReport r s).device, engines := (raiseReport r s).engines
        startResult := (raiseReport r s).startResult, startReq := (raiseReport r s).startReq
        readChannel := (raiseReport r s).readChannel, noticeList := (raiseReport r s).noticeList
        errorFlags := (raiseReport r s).errorFlags, errorLog := (raiseReport r s).errorLog } := by
  rcases raiseReport_cases r s with h | h | ⟨_, _, h⟩ <;> rw [h] <;> rfl

/-- What reports can change, taken one after the other. -/
theorem raiseReports_frame (rs : List Report) (s : State) :
    raiseReports rs s =
      { s with
        device := (raiseReports rs s).device, engines := (raiseReports rs s).engines
        startResult := (raiseReports rs s).startResult, startReq := (raiseReports rs s).startReq
        readChannel := (raiseReports rs s).readChannel, noticeList := (raiseReports rs s).noticeList
        errorFlags := (raiseReports rs s).errorFlags
        errorLog := (raiseReports rs s).errorLog } := by
  induction rs generalizing s with
  | nil => rfl
  | cons r rs ih =>
    obtain ⟨d, e, a, q, c, n, f, g, h⟩ : ∃ d e a q c n f g, raiseReport r s =
        { s with
          device := d, engines := e, startResult := a, startReq := q, readChannel := c
          noticeList := n, errorFlags := f, errorLog := g } :=
      ⟨_, _, _, _, _, _, _, _, raiseReport_frame r s⟩
    simp only [raiseReports]
    rw [h]
    conv_lhs => rw [ih]

/-- A law that records, error notices and the entry to FAULTED keep is kept by every list of reports. -/
theorem raiseReports_induction {p : State → Prop} (hrec : ∀ r s, p s → p (recordReport r s))
    (hnot : ∀ c s, p s → p (raiseErrorNotice c s))
    (hflt : ∀ s, s.haltable = true → p s → p (enterFaulted s)) (rs : List Report) (s : State)
    (h : p s) : p (raiseReports rs s) := by
  induction rs generalizing s with
  | nil => exact h
  | cons r rs ih =>
    refine ih _ ?_
    rcases raiseReport_cases r s with e | e | ⟨hh, _, e⟩ <;> rw [e]
    · exact hrec r s h
    · exact hnot _ _ (hrec r s h)
    · exact hflt _ hh (hrec r s h)

/-! ### Halts and drains (R22, R41) -/

/-- What a halt can change. -/
theorem haltLane_frame (l : LaneNo) (s : State) :
    haltLane l s =
      { s with
        lanes := (haltLane l s).lanes, device := (haltLane l s).device
        fifo := s.fifo.filter fun r => !unstarted l r
        returnQueue := s.returnQueue.filter fun e => e.lane != l
        readChannel := staleRead l s.readChannel
        writeChannel := detachWrite (some l) s.writeChannel } := by
  conv_lhs => rw [haltLane, settle_frame]
  rfl

/-- A lane that is halted is left HALTED unless the halt ends STOPPING; other lanes keep all but their
state. -/
theorem haltLane_lane (l m : LaneNo) (s : State) :
    (haltLane l s).lane m =
      { (if m = l then
          { s.lane l with
            state := .halted, scanWanted := false, pendingExt := [], queue := []
            held := (s.lane l).held - haltDrops l s }
        else s.lane m) with state := ((haltLane l s).lane m).state } := by
  unfold haltLane
  rw [settle_lane, State.lane_of_set (s := s) (l := l) rfl]

/-- A halt of a lane that is neither RUNNING nor DRAINING does nothing. -/
theorem haltIfLive_cases (l : LaneNo) (s : State) :
    haltIfLive l s = s
    ∨ (((s.lane l).state = .running ∨ (s.lane l).state = .draining)
        ∧ haltIfLive l s = haltLane l s) := by
  unfold haltIfLive
  split_ifs with h
  · exact .inr ⟨h, rfl⟩
  · exact .inl rfl

/-- The drain of lane `l` leaves every other lane as it stands. -/
theorem drainLane_lane (l m : LaneNo) (s : State) :
    (drainLane l s).lane m =
      if m = l then
        { s.lane l with
          state := if (s.lane l).held = 0 then .paused else .draining
          scanWanted := false, pendingExt := [], queue := [] }
      else s.lane m := by
  rw [drainLane, State.lane_of_set (s := s) (l := l) rfl]

/-- What the drains of a STOP can change. -/
theorem drainLanes_frame (ls : List LaneNo) (s : State) :
    drainLanes ls s =
      { s with
        lanes := (drainLanes ls s).lanes, returnQueue := (drainLanes ls s).returnQueue
        fifo := (drainLanes ls s).fifo, readChannel := (drainLanes ls s).readChannel } := by
  induction ls generalizing s with
  | nil => rfl
  | cons l ls ih =>
    rw [drainLanes]
    split_ifs
    · conv_lhs => rw [ih]
      rfl
    · conv_lhs => rw [ih]

/-! ### Key store (R76, R77, R83, R84) -/

/-- What an uncorrectable read does to the slots. -/
theorem makeFaulty_slot (n m : SliceNo) (k j : SlotNo) (s : State) :
    (makeFaulty n k s).slot m j =
      if m = n ∧ j = k then
        { s.slot n k with state := .faulty, key := none, epoch := (s.slot n k).epoch + 1 }
      else s.slot m j := by
  show (s.setSlot n k _).slot m j = _
  rw [State.slot_setSlot]

/-- What a slot replaced with its epoch raised does to the slots. -/
theorem replaceSlot_slot (n m : SliceNo) (k j : SlotNo) (x : Slot) (s : State) :
    (replaceSlot n k x s).slot m j =
      if m = n ∧ j = k then { x with epoch := (s.slot n k).epoch + 1 } else s.slot m j := by
  show (s.setSlot n k _).slot m j = _
  rw [State.slot_setSlot]

/-- A dirty mark set leaves issuer codes and lock flags as they stand. -/
theorem markSliceDirty_binding (n m : SliceNo) (s : State) :
    (markSliceDirty n s).binding m =
      if m = n then (s.binding n).map (fun b => { b with dirty := true }) else s.binding m := by
  show (s.setBinding n _).binding m = _
  rw [State.binding_setBinding]

/-- A re-mark changes no record but a COMMIT's. -/
theorem remarkSlice_cases (n : SliceNo) (o : Option NvmRecord) :
    remarkSlice n o = o
    ∨ ∃ r c, o = some r ∧ r.op = .commit c
        ∧ remarkSlice n o = some { r with op := .commit { c with remark := true } } := by
  unfold remarkSlice
  split
  · exact .inl rfl
  · rename_i r
    split
    · rename_i c hc
      split
      · split_ifs
        · exact .inr ⟨r, c, rfl, hc, rfl⟩
        · exact .inl rfl
      · exact .inl rfl
    · exact .inl rfl
    · exact .inl rfl

/-! ### Service requests (R92) -/

/-- What the completion of the head can change. -/
theorem finish_frame (h : ServiceRequest) (st : Status) (fields : List ResultField) (s : State) :
    finish h st fields s =
      { s with
        fifo := s.fifo.tail, lanes := (finish h st fields s).lanes
        device := (finish h st fields s).device
        returnQueue := (finish h st fields s).returnQueue } := by
  conv_lhs => rw [finish, makeEntry_frame]
  rfl

/-- A service command acts on an arrived head of its kind only. -/
theorem onHead_cases (kind : ServiceKind) (f : ServiceRequest → State → State) (s : State) :
    onHead kind f s = s
    ∨ ∃ h rest, s.active = true ∧ s.fifo = h :: rest ∧ h.kind = kind ∧ h.phase = .waiting
        ∧ onHead kind f s = f h s := by
  unfold onHead State.arrived
  split
  · rename_i h hh
    split at hh
    · rename_i h' rest ha hf
      split_ifs at hh with hc
      · injection hh with hh; subst hh
        exact .inr ⟨_, rest, ha, hf, hc.1, hc.2, rfl⟩
    · contradiction
  · exact .inl rfl

/-- An arrived head is what the command runs on. -/
theorem onHead_of_arrived {kind : ServiceKind} {h : ServiceRequest} {rest : List ServiceRequest}
    {s : State} (hs : Arrived kind h rest s) (f : ServiceRequest → State → State) :
    onHead kind f s = f h s := by
  obtain ⟨ha, hf, hk, hp⟩ := hs
  simp [onHead, State.arrived, ha, hf, hk, hp]

/-! ### The operation in flight (R135) -/

/-- What a cut can change. -/
theorem cutNvm_frame (s : State) :
    cutNvm s =
      { s with
        nvm := (cutNvm s).nvm, freeIndex := (cutNvm s).freeIndex, nvmOp := none } := by
  unfold cutNvm
  split
  · rename_i h; cases s; simp_all
  · rfl

/-- With no operation in flight there is nothing to cut. -/
theorem cutNvm_of_none {s : State} (h : s.nvmOp = none) : cutNvm s = s := by
  unfold cutNvm; rw [h]

/-- A cut keeps the array's canonical form. -/
theorem nvmWf_cutNvm {s : State} (h : nvmWf s.nvm = true) : nvmWf (cutNvm s).nvm = true := by
  unfold cutNvm
  split
  · exact h
  · exact nvmWf_cutArray h _ _

end Sys2Proof.Machine
end

