-- ==== Sys2Proof/Laws/Words.lean ====
section
/-! SUPPORT. The words of the statements beside the operations that decide them: one lemma each, so that a
proof goes from the statement's word to the operation without unfolding either. -/

namespace Sys2Proof.Machine

/-! ### BUSY (R95) -/

/-- The test for a directory commit in flight decides the word. -/
theorem committingDirectory_iff (s : State) :
    s.committingDirectory = true ↔ CommittingDirectory s := by
  unfold State.committingDirectory CommittingDirectory
  constructor
  · intro h
    split at h
    · rename_i c _ _ ho
      exact ⟨_, c, ho, rfl, by simpa using h⟩
    · contradiction
  · rintro ⟨⟨op, g, e⟩, c, ho, rfl, hc⟩
    simp [ho, hc]

/-- The test for a commit of a slice in flight decides the word. -/
theorem committingSlice_iff (s : State) (n : SliceNo) :
    s.committingSlice n = true ↔ CommittingSlice s n := by
  unfold State.committingSlice CommittingSlice
  constructor
  · intro h
    split at h
    · rename_i c _ _ ho
      split at h
      · rename_i m code hc
        exact ⟨_, c, code, ho, rfl, by rw [hc, beq_iff_eq.mp h]⟩
      · contradiction
    · contradiction
  · rintro ⟨⟨op, g, e⟩, c, code, ho, rfl, hc⟩
    simp [ho, hc]

/-! ### The cache probe (R114) -/

/-- The states that serve tags. -/
theorem serving_iff (x : Slot) : x.serving = true ↔ x.state = .active ∨ x.state = .retiring := by
  unfold Slot.serving; cases x.state <;> simp

/-- A key-bearing lookup records the slot's present epoch. -/
theorem lookup_epoch {s : State} {r : PassRequest} {ref : SlotRef} (h : lookup s r = .bearing ref) :
    ref.epoch = (s.slot ref.slice ref.slot).epoch := by
  unfold lookup at h
  split at h
  · contradiction
  · unfold genLookup at h
    split at h
    · split_ifs at h
    · split at h <;> cases h <;> rfl

/-- What the probe's test of an entry says. -/
theorem entryHits_iff {s : State} {r : PassRequest} {ref : SlotRef} (y : CacheEntry)
    (he : ref.epoch = (s.slot ref.slice ref.slot).epoch) :
    EntryHits s r ref y ↔ y ∈ s.cache ∧
      (sameTriple r.issuer r.gen r.tagId y && y.ref == ref
        && ref.epoch == (s.slot ref.slice ref.slot).epoch && (s.slot ref.slice ref.slot).serving) = true := by
  have hr : y.ref = ref ↔ y.ref.slice = ref.slice ∧ y.ref.slot = ref.slot ∧ y.ref.epoch = ref.epoch := by
    cases ref; cases hy : y.ref; simp
  unfold EntryHits sameTriple
  simp only [Bool.and_eq_true, beq_iff_eq, serving_iff, hr, ← he]
  tauto

/-- The probe misses exactly when no entry meets the conditions. -/
theorem cacheProbe_eq_none_iff {s : State} {r : PassRequest} {ref : SlotRef}
    (he : ref.epoch = (s.slot ref.slice ref.slot).epoch) :
    cacheProbe s r ref = none ↔ ProbeMisses s r ref := by
  unfold cacheProbe ProbeMisses
  simp only [List.find?_eq_none, entryHits_iff _ he]
  exact ⟨fun h y hy => h y hy.1 hy.2, fun h y hm hy => h y ⟨hm, hy⟩⟩

/-- A hit gives the one entry that meets the conditions. -/
theorem cacheProbe_of_hits {s : State} {r : PassRequest} {ref : SlotRef} {y : CacheEntry}
    (he : ref.epoch = (s.slot ref.slice ref.slot).epoch) (h : ProbeHits s r ref y) :
    cacheProbe s r ref = some y := by
  cases hp : cacheProbe s r ref with
  | none => exact absurd h.1 ((cacheProbe_eq_none_iff he).1 hp y)
  | some z =>
    have hz : EntryHits s r ref z := by
      unfold cacheProbe at hp
      exact (entryHits_iff z he).2 ⟨List.mem_of_find?_eq_some hp, by simpa using List.find?_some hp⟩
    rw [h.2 z hz]

/-! ### Dropped cells (R22) -/

/-- A held cell released in a lane that does not drain is a cell dropped. -/
theorem cellDropped_releaseCells (l : LaneNo) (s : State) (h : (s.lane l).state ≠ .draining) :
    CellDropped l s (releaseCells l 1 s) := by
  have hl : ∀ m, (s.setLane l { s.lane l with held := (s.lane l).held - 1 }).lane m
      = if m = l then { s.lane l with held := (s.lane l).held - 1 } else s.lane m :=
    fun m => State.lane_setLane ..
  have hd : ((s.setLane l { s.lane l with held := (s.lane l).held - 1 }).lane l).state ≠ .draining := by
    rw [hl, if_pos rfl]; exact h
  unfold releaseCells
  refine ⟨fun hs => ?_, fun hs h1 h0 => ?_⟩
  · rw [settle_of_not_draining _ _ hd]
    · rfl
    · rcases hs with hs | hs | ⟨m, hm, hs⟩
      · exact .inl hs
      · exact .inr ⟨l, by rw [hl, if_pos rfl]; show (s.lane l).held - 1 ≠ 0; omega⟩
      · exact .inr ⟨m, by rw [hl, if_neg hm]; exact hs⟩
  · have hz : ∀ m, ((s.setLane l { s.lane l with held := (s.lane l).held - 1 }).lane m).held = 0 := by
      intro m
      rw [hl]
      split_ifs with e
      · show (s.lane l).held - 1 = 0; omega
      · exact h0 m e
    rw [settle_ends_stopping _ _ hd hs hz]
    refine ⟨rfl, fun m => ?_⟩
    rw [enterStopped_lane]
    have := hz m
    rw [hl] at this ⊢
    split_ifs with e
    · subst e
      rw [if_pos rfl] at this
      simp only at this
      rw [this]
    · rw [← h0 m e]

end Sys2Proof.Machine
end

