-- ==== Sys2Proof/Tests/Slice0.lean ====
section
/-! SUPPORT. Our own tests: the well-formedness checks, values from the manual's worked sequences, and
for every statement a concrete state that meets its hypotheses. -/

namespace Sys2Proof.Tests

open Sys2Proof Sys2Proof.Machine

/-! ## Well-formedness -/

theorem test_wf_start_alone : (Instr.start 3).wf = false ∧ (Instr.start 1).wf = true := by decide
theorem test_wf_stop_alone : (Instr.stop 1).wf = false ∧ (Instr.stop 2).wf = true := by decide
theorem test_wf_soft_reset_bit : (Instr.softReset 8).wf = false ∧ (Instr.softReset 4).wf = true := by
  decide
theorem test_wf_lock_without_soft_reset : (Instr.lock 12).wf = false ∧ (Instr.lock 8).wf = true := by
  decide
theorem test_wf_ignored_write :
    (Instr.ignoredRegisterWrite 0x10 4 0).wf = false ∧ (Instr.ignoredRegisterWrite 0x14 4 0).wf = true
    ∧ (Instr.ignoredRegisterWrite 0x00 4 3).wf = true ∧ (Instr.ignoredRegisterWrite 0x00 4 1).wf = false
    ∧ (Instr.ignoredRegisterWrite 0x10 3 0).wf = false := by decide
theorem test_wf_station_record_length : (Instr.stationRecordReadEnd (.contents [0])).wf = false := by
  decide
theorem test_wf_cell_length :
    (Instr.cellReadEnd (.contents [0])).wf = false
    ∧ (Instr.cellReadEnd (.contents (List.replicate 64 0))).wf = true := by decide

/-- No row of the table gives a command any bits, so no word spells one. -/
theorem test_no_word_spells_a_command : decodeTableWord 8 0 = none ∧ decodeTableWord 32 1 = none := by
  decide

/-! ## States of the tests -/

/-- Bytes with some set, from zeros. -/
def blank (n : Nat) (sets : List (Nat × Byte)) : Bytes :=
  sets.foldl (fun b p => b.set p.1 p.2) (List.replicate n 0)

/-- A RUNNING SERVICE lane with notice enabled and a strip of 16 cells at the window's first byte. -/
def lane16 : Lane :=
  { Lane.initial with
    state := .running, scanWanted := true
    config := { LaneConfig.initial with stripLen := 16, service := true, noticeEnable := true } }

/-- A device in RUNNING whose 16 lanes are `lane16`, at GT 1000. -/
def onRun : State :=
  { State.reset with
    device := .running, load := none, gt := 1000, window := some { basePage := 0, limitPage := 255 }
    lanes := Vector.replicate 16 lane16, laneLimit := 16, engineCount := 2, gantryId := some 7 }

/-- A device in STOPPED. -/
def onStop : State := { State.reset with device := .stopped, load := none }

/-- A live read of lane 0's cell at position 3. -/
def reading (s : State) : State :=
  { s with
    readChannel := .cell { lane := 0, pos := 3, stale := false, discarded := false, refused := false } }

/-- A cell taken with some bytes set. -/
def taken (pos : Nat) (sets : List (Nat × Byte)) : TakenCell := { pos := pos, bytes := blank 64 sets }

/-- A pass request of lane 0 with a deadline 100 µs after `onRun`'s GT. -/
def pass0 : PassRequest :=
  { passRequestOf 0 [] (taken 0 [(0, 1), (1, 1), (9, 41), (10, 2), (11, 1)]) 5 with deadline := 1100 }

/-- `onRun` with `pass0` queued. -/
def queued0 : State := onRun.setLane 0 { lane16 with queue := [pass0], held := 1 }

/-- A service request of lane 0 at the FIFO head, arrived and not yet checked. -/
def srv (kind : ServiceKind) (sets : List (Nat × Byte)) : ServiceRequest :=
  { lane := 0, cell := taken 2 sets, take := 4, kind := kind, phase := .waiting }

/-- `onRun` with a service request as the FIFO head. -/
def headed (kind : ServiceKind) (sets : List (Nat × Byte)) : State :=
  { onRun with fifo := [srv kind sets] }

/-- Slice 6 bound to issuer 0x0102 with its mark set, as in 3.10. -/
def bound6 (s : State) : State :=
  s.setBinding 6 (some { issuer := 0x0102, locked := false, dirty := true })

/-- An ACTIVE slot with a generation, whose key reads as given. -/
def active (gen : Byte) (epoch : Half) (e : Ecc) : Slot :=
  { state := .active, epoch := epoch, info := some { gen := gen, fromDay := 0, toDay := 9, grace := 3 }
    key := some { value := List.replicate 16 gen, kcv := [1, 2, 3], ecc := e } }

/-- Generations 41 and 42 ACTIVE in slots 2 and 3 of slice 6 (3.10). -/
def keyed (e : Ecc) (s : State) : State :=
  ((bound6 s).setSlot 6 2 (active 41 7 e)).setSlot 6 3 (active 42 0 .clean)

/-! ## Worked sequences of the manual -/

/-- 1.9: the read of position 15 wraps the cursor and pends the second extension. -/
theorem test_1_9_ext_across_wrap :
    (match exec (.cellReadEnd (.contents (blank 64 [(0, 1), (1, 2)])))
        (reading (onRun.setLane 0 { lane16 with
          cursor := 15, held := 1, pendingExt := [taken 14 [(1, 2)]] })) with
     | .next t => ((t.lane 0).cursor, (t.lane 0).held, (t.lane 0).pendingExt.length)
     | _ => (99, 0, 0)) = (0, 2, 2) := by decide

/-- 1.10: a third extension returns the chain MALFORMED. -/
theorem test_1_10_overlong_chain :
    (match exec (.cellReadEnd (.contents (blank 64 [(0, 1), (1, 2)])))
        (reading (onRun.setLane 0 { lane16 with
          cursor := 6, held := 2, pendingExt := [taken 4 [(1, 2)], taken 5 [(1, 2)]] })) with
     | .next t => ((t.lane 0).cursor, (t.lane 0).held, (t.lane 0).pendingExt.length,
         t.returnQueue.map fun e => (e.cells.map TakenCell.pos, e.status))
     | _ => (99, 0, 0, [])) = (7, 3, 0, [([4, 5, 3], .malformed)]) := by decide

/-- 2.7.1: the blocks of PLEN 20 and WLEN 16, on a miss and on a hit. -/
theorem test_2_7_1_costs :
    verifyBlocks 20 = 3 ∧ writeBlocks 16 = 3
    ∧ fullCost { pass0 with plen := 20, wlen := 16 } true false true = 11
    ∧ fullCost { pass0 with plen := 20, wlen := 16 } true true true = 9
    ∧ reducedCost { pass0 with plen := 20, wlen := 16 } true false true = 8
    ∧ reducedCost { pass0 with plen := 20, wlen := 16 } true true true = 6 := by decide

/-- 2.7.1, cases A and B: REDUCED at the limit, and FULL across the wrap. -/
theorem test_2_7_1_modes :
    chooseMode { pass0 with plen := 20, wlen := 16, allowReduced := true }
        (signedDist 0xFFFFFFC8 0xFFFFFFF0) true false true = some .reduced
    ∧ chooseMode { pass0 with plen := 20, wlen := 16, allowReduced := false }
        (signedDist 0xFFFFFFC8 0xFFFFFFF0) true false true = none
    ∧ chooseMode { pass0 with plen := 20, wlen := 16, allowReduced := false }
        (signedDist 0xFFFFFFE2 0x00000019) true false true = some .full := by decide

/-- 2.7.1, cases C and D: clamped at take, and late at take. -/
theorem test_2_7_1_take :
    ((clampDeadline 5 { pass0 with deadline := 5 + 0x00200000 }).deadline,
      (clampDeadline 5 { pass0 with deadline := 5 + 0x00200000 }).deadlineClamped)
        = ((5 : Word) + 1000000, true)
    ∧ (queueRequest { pass0 with deadline := 999 } onRun).returnQueue.map ReturnEntry.status
        = [.late] := by decide

/-- The state of 3.10 at dispatch GT 2000, with start part 6 and issue count 0x00010. -/
def at2000 : State :=
  { (keyed .correctable onRun).setSlot 0 0 (active 1 0 .clean) with
    gt := 2000, startCount := 7, issueCount := 0x00010
    lanes := onRun.lanes.set 3 { lane16 with
      held := 1
      queue := [{ pass0 with
        lane := 3, issuer := 0x0102, gen := 41, plen := 20, wlen := 16, wantEvidence := true
        deadline := 2100 }] } }

/-- 3.10: the dispatch decision. -/
theorem test_3_10_dispatch :
    (match exec .dispatch at2000 with
     | .next t =>
       (match t.engine 0 with
        | some (.pass w) =>
          w.mode == .full && w.stages == [.derive, .verify, .write, .evidence] && w.stageEnd == 2010
            && w.serial == some 0x00600010 && w.newestGen == 42 && w.staleGen && w.eccCorrected
        | _ => false) && t.issueCount == 0x00011
     | _ => false) = true := by decide

/-- 3.12: the serials at the end of the issue count. -/
theorem test_3_12_serials :
    ({ onRun with startCount := 7, issueCount := 0xFFFFE } : State).nextSerial = 0x006FFFFE
    ∧ ({ onRun with startCount := 7, issueCount := 0xFFFFF } : State).nextSerial = 0x006FFFFF
    ∧ (spendSerial { onRun with startCount := 7, issueCount := 0xFFFFF }).evidenceExhausted = true
    ∧ ({ onRun with startCount := 8, issueCount := 0 } : State).nextSerial = 0x00700000 := by decide

/-- 4.10: the states of three generations at days 400, 430, 650 and 1100. -/
theorem test_4_10_states :
    ([400, 430, 650, 1100].map fun d => dayState d { gen := 40, fromDay := 100, toDay := 399, grace := 30 })
        = [.retiring, .expired, .expired, .expired]
    ∧ ([400, 430, 650, 1100].map fun d =>
          dayState d { gen := 42, fromDay := 600, toDay := 999, grace := 30 })
        = [.staged, .staged, .active, .expired] := by decide

/-- 8.7: a report of higher severity overwrites the record, an equal one counts. -/
theorem test_8_7_log :
    logReport { cls := .correctedEcc, lane := some 8, slice := some 6, slot := some 2 } 1200
        (some { cls := .correctedEcc, lane := some 3, slice := some 6, slot := some 2, gt := 1000, further := 0 })
      = { cls := .correctedEcc, lane := some 3, slice := some 6, slot := some 2, gt := 1000, further := 1 }
    ∧ logReport { cls := .nvmFail, lane := some 14, slice := some 6, slot := none } 1510
        (some { cls := .busError, lane := some 9, slice := none, slot := none, gt := 1500, further := 0 })
      = { cls := .nvmFail, lane := some 14, slice := some 6, slot := none, gt := 1510, further := 0 } := by
  decide

/-- 8.8: a soft reset is ignored in FAULTED with TAMPER_FAULT. -/
theorem test_8_8_soft_reset_ignored :
    ({ onStop with device := .faulted, tamperFault := true } : State).softResettable = false := by decide

/-- FIPS 197, appendix C.1: the AES-128 vector, in both directions. -/
theorem test_aes128_vector :
    blockE ((List.range 16).map (BitVec.ofNat 8)) ((List.range 16).map fun i => BitVec.ofNat 8 (17 * i))
      = [0x69, 0xC4, 0xE0, 0xD8, 0x6A, 0x7B, 0x04, 0x30, 0xD8, 0xCD, 0xB7, 0x80, 0x70, 0xB4, 0xC5, 0x5A]
    ∧ blockD ((List.range 16).map (BitVec.ofNat 8))
        [0x69, 0xC4, 0xE0, 0xD8, 0x6A, 0x7B, 0x04, 0x30, 0xD8, 0xCD, 0xB7, 0x80, 0x70, 0xB4, 0xC5, 0x5A]
      = (List.range 16).map fun i => BitVec.ofNat 8 (17 * i) := by decide +kernel

/-- The check value of CRC-32 over the ASCII digits 1 to 9. -/
theorem test_crc32_check :
    crc32 [0x31, 0x32, 0x33, 0x34, 0x35, 0x36, 0x37, 0x38, 0x39] = 0xCBF43926 := by decide +kernel

/-! ## Witnesses: concrete states that meet the hypotheses of each statement, clause by clause -/

theorem witness_StepRunsFrontCommand :
    ({ onRun with pending := [.dispatch, .commit] } : State).pending = .dispatch :: [.commit]
    ∧ onRun.pending = [] := ⟨rfl, rfl⟩

theorem witness_ControlWrites :
    ((0x0F : Word).getLsbD 2 = true)
    ∧ ((9 : Word).getLsbD 2 = false ∧ (9 : Word).getLsbD 0 = true ∧ (9 : Word).getLsbD 1 = false)
    ∧ ((10 : Word).getLsbD 2 = false ∧ (10 : Word).getLsbD 0 = false ∧ (10 : Word).getLsbD 1 = true)
    ∧ ((11 : Word).getLsbD 2 = false ∧ (11 : Word).getLsbD 0 = (11 : Word).getLsbD 1)
    ∧ (onStop.device = .stopped ∧ onStop.startReq = none
      ∧ (onStop.stationBaseHi ++ onStop.stationBaseLo).toNat % 4096 = 0)
    ∧ (({ onStop with stationBaseLo := 1 } : State).stationBaseHi
        ++ ({ onStop with stationBaseLo := 1 } : State).stationBaseLo).toNat % 4096 ≠ 0
    ∧ ({ onStop with startReq := some { addr := 0, issued := false } } : State).startReq.isSome = true
    ∧ ({ onStop with device := .zeroized } : State).device = .zeroized
    ∧ onRun.device ≠ .stopped ∧ onRun.device ≠ .zeroized := by decide

theorem witness_StopDrainsRunningLanes :
    onStop.device ≠ .running ∧ onRun.device = .running ∧ (∀ l, (onRun.lane l).held = 0)
    ∧ (∃ l, (queued0.lane l).held ≠ 0)
    ∧ (reading onRun).readChannel
        = .cell { lane := 0, pos := 3, stale := false, discarded := false, refused := false }
    ∧ onRun.readChannel = .free := by decide

/-- A COMMIT of slice 6 at its erase. -/
def commit6 (st : CommitStep) (remark : Bool) : CommitOp :=
  { target := .slice 6 0x0102, image := [0, 1], step := st, cell := some (taken 2 []), lane := 0
    remark := remark }

/-- The record of an NVM operation begun at GT 900 whose step ends at GT 1000, which is now. -/
def record (op : NvmOp) : NvmRecord := { op := op, startGt := 900, stepEnd := 1000 }

/-- `onRun` with a COMMIT of slice 6 in flight. -/
def committing (st : CommitStep) (remark : Bool) : State :=
  { bound6 onRun with nvmOp := some (record (.commit (commit6 st remark))) }

/-- A directory COMMIT in flight. -/
def dirCommit : NvmRecord :=
  record (.commit
    { target := .directory, image := [], step := .erase, cell := none, lane := 0, remark := false })

/-- `onRun` with a COMMIT of the directory in flight. -/
def dirCommitting : State := { onRun with nvmOp := some dirCommit }

/-- The commits in flight that make requests BUSY, each beside one that does not. -/
theorem witness_committing :
    CommittingDirectory dirCommitting ∧ ¬ CommittingDirectory (committing .erase false)
    ∧ CommittingSlice (committing .erase false) 6 ∧ ¬ CommittingSlice (committing .erase false) 5
    ∧ ¬ CommittingSlice dirCommitting 6 :=
  ⟨(committingDirectory_iff _).1 rfl, fun h => absurd ((committingDirectory_iff _).2 h) (by decide),
    (committingSlice_iff _ _).1 rfl, fun h => absurd ((committingSlice_iff _ _).2 h) (by decide),
    fun h => absurd ((committingSlice_iff _ _).2 h) (by decide)⟩

/-- With no operation in flight nothing is committed. -/
theorem witness_not_committing (s : State) (n : SliceNo) (h : s.nvmOp = none) :
    ¬ CommittingDirectory s ∧ ¬ CommittingSlice s n := by
  constructor
  · rintro ⟨r, c, hr, _⟩; rw [h] at hr; contradiction
  · rintro ⟨r, c, code, hr, _⟩; rw [h] at hr; contradiction

theorem witness_SoftResetClearsTraffic :
    onRun.device = .running
    ∧ ({ onStop with device := .faulted } : State).device = .faulted
    ∧ ({ onStop with device := .faulted } : State).tamperFault = false
    ∧ (committing .erase false).commitOp
        = some (record (.commit (commit6 .erase false)), commit6 .erase false)
    ∧ onRun.commitOp = none
    ∧ ({ onStop with readChannel := .station false } : State).readChannel = .station false
    ∧ State.reset.device = .loading := by decide

theorem witness_PostSetsScanWanted :
    (15 : Word).toNat = (15 : LaneNo).val ∧ onRun.device = .running ∧ (onRun.lane 15).state = .running
    ∧ 16 ≤ (16 : Word).toNat ∧ onStop.device ≠ .running ∧ (onStop.lane 15).state ≠ .running := by decide

/-- A log record of class BUS_ERROR. -/
def busRecord (further : Nat) : LogRecord :=
  { cls := .busError, lane := some 9, slice := none, slot := none, gt := 7, further := further }

/-- `onRun` with BUS_ERROR flagged and logged. -/
def logged (further : Nat) : State :=
  { onRun with errorFlags := 0x02, errorLog := some (busRecord further) }

theorem witness_FlagRegisterWrites :
    (logged 0).errorLog = some (busRecord 0)
    ∧ (logged 0).errorFlags.getLsbD (flagBit (busRecord 0).cls) = true
    ∧ (2 : Word).getLsbD (flagBit (busRecord 0).cls) = true
    ∧ (4 : Word).getLsbD (flagBit (busRecord 0).cls) = false ∧ onRun.errorLog = none := by decide

theorem witness_RegisterWindow :
    onRun.lock = false ∧ ({ onRun with lock := true } : State).lock = true
    ∧ (0x20 : Nat) ≤ 0x20 ∧ (0x1D : Nat) % 4 ≠ 0 ∧ (0x1E : Nat) % 4 + 2 ≤ 4
    ∧ ((3 : Word).getLsbD 0 = (3 : Word).getLsbD 1 ∧ (3 : Word).getLsbD 2 = false
      ∧ (3 : Word).getLsbD 3 = false) := by decide

/-- With an operation in flight and without, TAMPER released and asserted, and for each step that can be
cut. -/
theorem witness_ColdReset :
    onRun.tamperPin = false ∧ ({ onRun with tamperPin := true } : State).tamperPin = true
    ∧ CutTo onRun onRun.nvm 0
    ∧ CutTo (committing (.program 71) false)
        (cutArray [] 0 (.commit (commit6 (.program 71) false))) 1
    ∧ nvmWf onRun.nvm = true ∧ (commit6 (.spoil none) false).target = .slice 6 0x0102
    ∧ (commit6 .erase false).step = .erase ∧ (commit6 (.program 71) false).step = .program 71
    ∧ (commit6 (.spoil none) false).step = .spoil none :=
  ⟨rfl, rfl, .inl ⟨rfl, rfl, rfl⟩, .inr ⟨_, rfl, rfl, rfl⟩, rfl, rfl, rfl, rfl, rfl⟩

theorem witness_TamperResponses :
    onRun.tamperPin = false ∧ onRun.tamperAction = .zeroize ∧ onRun.device = .running
    ∧ CutTo (committing .erase false) (cutArray [] 0 (.commit (commit6 .erase false))) 1
    ∧ (committing .erase false).tamperAction = .zeroize ∧ (committing .erase false).device = .running
    ∧ ({ onRun with tamperAction := .faultOnly } : State).tamperAction = .faultOnly
    ∧ ({ onStop with device := .faulted } : State).tamperFault = false :=
  ⟨rfl, rfl, rfl, .inr ⟨_, rfl, rfl, rfl⟩, rfl, rfl, rfl, rfl⟩

theorem witness_TamperWithoutResponse :
    ({ onRun with tamperPin := true } : State).tamperPin = true
    ∧ ({ onStop with device := .zeroized } : State).tamperPin = false
    ∧ ({ onStop with device := .zeroizing } : State).device = .zeroizing
    ∧ ({ onStop with device := .faulted, tamperFault := true } : State).tamperFault = true := by decide

theorem witness_LogRecordsMostSevere :
    onRun.errorLog = none ∧ (logged 0).errorLog = some (busRecord 0)
    ∧ severity (busRecord 0).cls < severity .nvmFail ∧ severity .busError ≤ severity (busRecord 0).cls
    ∧ (busRecord 254).further < 255 ∧ (busRecord 255).further = 255 := by decide

/-- `onRun` with every class routed alike. -/
def routed (r : Route) : State :=
  { onRun with routes := { correctedEcc := r, uncorrectedEcc := r, nvmFail := r, busError := r } }

theorem witness_ReportRouting :
    routeOf (routed .quiet).routes .busError = .quiet ∧ routeOf (routed .notice).routes .busError = .notice
    ∧ routeOf (routed .halt).routes .busError = .halt ∧ (routed .halt).device = .running
    ∧ State.reset.device ≠ .stopped ∧ State.reset.device ≠ .running ∧ State.reset.device ≠ .stopping := by
  decide

/-- A station record: signature 0x4C4B0110, window pages 0..15, lane count 1, and lane 0 of 16 cells. -/
def station : Bytes :=
  blank 576 [(0, 0x10), (1, 0x01), (2, 0x4B), (3, 0x4C), (17, 0xFF), (24, 1), (72, 16)]

theorem witness_StationRecordReads :
    ({ onStop with startReq := some { addr := 4096, issued := false } } : State).readChannel = .free
    ∧ ({ onStop with readChannel := .station false } : State).readChannel = .station false
    ∧ le32 (station.set 0 0) 0 ≠ 0x4C4B0110
    ∧ (le32 station 0 = 0x4C4B0110
      ∧ (le64 (station.set 9 0xFF |>.set 10 1) 16).toNat / 4096
          < (le64 (station.set 9 0xFF |>.set 10 1) 8).toNat / 4096)
    ∧ ((le64 station 8).toNat / 4096 ≤ (le64 station 16).toNat / 4096
      ∧ byteAt (station.set 24 0) 24 = 0)
    ∧ (∀ l, laneAccepted (station.set 72 15) 16 l = false) := by decide +kernel

theorem witness_StationRecordApplied :
    le32 station 0 = 0x4C4B0110 ∧ (le64 station 8).toNat / 4096 ≤ (le64 station 16).toNat / 4096
    ∧ byteAt station 24 ≠ 0 ∧ laneAccepted station 1 0 = true ∧ laneAccepted station 16 1 = false := by
  decide +kernel

theorem witness_CellReadIssueRoundRobin :
    onRun.device = .running ∧ onRun.readChannel = .free
    ∧ ((onRun.lane 0).state = .running ∧ (onRun.lane 0).scanWanted = true ∧ (onRun.lane 0).held < 8)
    ∧ ∀ m : LaneNo,
      ((onRun.lane m).state = .running ∧ (onRun.lane m).scanWanted = true ∧ (onRun.lane m).held < 8) →
      ((0 : LaneNo).val + 31 - onRun.lastServed.val) % 16 ≤ (m.val + 31 - onRun.lastServed.val) % 16 := by
  decide

/-- The live read of `reading` with marks set. -/
def marked (stale discarded refused : Bool) : CellRead :=
  { lane := 0, pos := 3, stale := stale, discarded := discarded, refused := refused }

/-- `onRun` with a read of lane 0 in flight that carries marks, and lane 0 in a given state. -/
def marks (stale discarded refused : Bool) (st : LaneState) : State :=
  { onRun.setLane 0 { lane16 with state := st } with
    readChannel := .cell (marked stale discarded refused) }

theorem witness_reading : Reading 0 3 (reading onRun) := ⟨rfl, rfl, rfl⟩

theorem witness_CellReadEndsWithoutTake :
    Reading 0 3 (reading onRun) ∧ byteAt (blank 64 []) 0 ≠ 0x01
    ∧ (marks true false false .paused).readChannel = .cell (marked true false false)
    ∧ (marks false true true .running).readChannel = .cell (marked false true true)
    ∧ (marks false false true .running).frozen = false
    ∧ ((marks true false false .draining).lane 0).state = .draining
    ∧ ((marks true false false .paused).lane 0).state ≠ .draining :=
  ⟨witness_reading, by decide, rfl, rfl, rfl, rfl, by decide⟩

theorem witness_TakeExtServiceUnknown :
    Reading 0 3 (reading onRun) ∧ byteAt (blank 64 [(0, 1), (1, 2)]) 0 = 0x01
    ∧ byteAt (blank 64 [(0, 1), (1, 2)]) 1 = 0x02 ∧ (onRun.lane 0).pendingExt.length < 2
    ∧ Reading 0 3 (reading (onRun.setLane 0 { lane16 with
        held := 2, pendingExt := [taken 1 [], taken 2 []] }))
    ∧ 2 ≤ ((onRun.setLane 0 { lane16 with held := 2, pendingExt := [taken 1 [], taken 2 []] }).lane
        0).pendingExt.length
    ∧ ((0x1C : Byte).toNat ≠ 0x01 ∧ (0x1C : Byte).toNat ≠ 0x02 ∧ 0x1B < (0x1C : Byte).toNat)
    ∧ (0x0F : Byte).toNat < 0x10
    ∧ serviceKindOf 0x10 = some .issuerAdd ∧ serviceKindOf 0x1B = some .laneResume
    ∧ (onRun.lane 0).pendingExt = [] ∧ (onRun.lane 0).config.service = true
    ∧ (Lane.initial).config.service = false :=
  ⟨witness_reading, by decide, by decide, by decide, ⟨rfl, rfl, rfl⟩, by decide, by decide, by decide,
    rfl, rfl, rfl, rfl, rfl⟩

theorem witness_TakePass :
    Reading 0 3 (reading onRun)
    ∧ byteAt (blank 64 [(0, 1), (1, 1), (6, 1)]) 1 = 0x01
    ∧ (byteAt (blank 64 [(0, 1), (1, 1), (6, 1)]) 6).toNat ≠ ((reading onRun).lane 0).pendingExt.length
    ∧ (byteAt (blank 64 [(0, 1), (1, 1)]) 6).toNat = ((reading onRun).lane 0).pendingExt.length
    ∧ ((le32 (blank 64 [(16, 0xE8), (17, 3)]) 16) - (reading onRun).gt).toInt = 0
    ∧ ((le32 (blank 64 [(16, 0x28), (17, 0x46), (18, 0x0F)]) 16) - (reading onRun).gt).toInt = 1000000
    ∧ 1000000 < ((le32 (blank 64 [(16, 0x29), (17, 0x46), (18, 0x0F)]) 16)
        - (reading onRun).gt).toInt :=
  ⟨witness_reading, by decide, by decide, by decide, by decide, by decide, by decide⟩

/-- A return entry of lane 0. -/
def entry0 (cells : List TakenCell) (done : Bool) : ReturnEntry :=
  { lane := 0, cells := cells, status := .ok, result := List.replicate 28 0, firstDone := done }

theorem witness_HaltedLane :
    onRun.device ≠ .stopping ∧ ((marks false false false .running).lane 0).state ≠ .halted
    ∧ (({ onRun with device := .stopping } : State).device = .stopping
      ∧ (({ onRun with device := .stopping } : State).lane 0).held ≤ 0
      ∧ ∀ m, m ≠ 0 → (({ onRun with device := .stopping } : State).lane m).held = 0)
    ∧ (∃ m, m ≠ 0 ∧ ((onRun.setLane 1 { lane16 with held := 1 }).lane m).held ≠ 0)
    ∧ onRun.writeChannel = none ∧ (∀ r, onRun.readChannel ≠ .cell r)
    ∧ ((marks false false false .halted).lane 0).state = .halted
    ∧ (marks true false false .running).readChannel = .cell (marked true false false) := by
  refine ⟨by decide, by decide, by decide, by decide, rfl, fun r h => ?_, by decide, rfl⟩
  simp [onRun, State.reset] at h

theorem witness_DeadlineExpiryReturnsLate :
    (queued0.frozen = false ∧ (queued0.lane 0).queue = [] ++ pass0 :: [] ∧ pass0.take = 5
      ∧ pass0.lane = 0 ∧ (queued0.lane 0).state ≠ .halted ∧ 0 ≤ (pass0.deadline - queued0.gt).toInt)
    ∧ (∀ r ∈ (queued0.lane 0).queue, r.take ≠ 6)
    ∧ ({ queued0 with device := .faulted } : State).frozen = true := by decide

/-- The pass work of `pass0` at a stage that ends now. -/
def work0 (stages : List Stage) (keys : KeyMaterial) : PassWork :=
  { request := pass0, dispatchGt := 990, mode := .full, verdict := some .accept
    ref := some { slice := 6, slot := 2, epoch := 7 }, keys := keys, evidenceKey := some [1]
    serial := some 9, newestGen := 42, staleGen := true, cacheHit := false, eccCorrected := false
    stages := stages, stageBlocks := 2, stageEnd := 1000, wbAuth := none, evMac := none }

theorem witness_PassResultAreas : (work0 [.write] .absent).verdict = some .accept := rfl

/-- `onRun` with a write on the channel and one entry of lane 0 in the return queue. -/
def writing (kind : WriteKind) (refused attached : Bool) (cells : List TakenCell) (held : Nat) : State :=
  { onRun.setLane 0 { lane16 with held := held } with
    returnQueue := [entry0 cells (decide (kind = .own))]
    writeChannel := some
      { kind := kind, lane := some 0, addr := 64, data := [0], refused := refused, attached := attached } }

theorem witness_WriteChannelIssue :
    onRun.writeChannel = none
    ∧ ({ onRun with noticeList := [.lane 0] } : State).noticeList = .lane 0 :: []
    ∧ ({ onRun with noticeList := [.error .nvmFail], errorNoticeAddr := some 8 } : State).errorNoticeAddr
        = some 8
    ∧ ({ onRun with returnQueue := [entry0 [taken 1 []] false] } : State).returnQueue
        = entry0 [taken 1 []] false :: []
    ∧ (entry0 [taken 1 []] false).cells = taken 1 [] :: []
    ∧ (entry0 [taken 1 []] false).firstDone = false ∧ (entry0 [taken 1 []] false).result.length = 28
    ∧ (entry0 [taken 1 []] true).firstDone = true ∧ onRun.noticeList = [] := by decide

theorem witness_OwnWriteReturnsCell :
    (∃ w, (writing .own false true [taken 1 [], taken 2 []] 2).writeChannel = some w ∧ w.kind = .own
        ∧ w.refused = false ∧ w.attached = true)
    ∧ 1 < ((writing .own false true [taken 1 [], taken 2 []] 2).lane 0).held
    ∧ (entry0 [taken 1 []] true).cells = [taken 1 []] ∧ onRun.device ≠ .stopping
    ∧ (lane16.config.noticeEnable = true ∧ onRun.noticePending.getLsbD 0 = false)
    ∧ (∃ w, (writing .own false false [taken 1 []] 1).writeChannel = some w ∧ w.attached = false)
    ∧ ((writing .own false true [taken 1 []] 1).lane 0).held = 1
    ∧ (∀ l, l ≠ 0 → ((writing .own false true [taken 1 []] 1).lane l).held = 0)
    ∧ ({ writing .own false true [taken 1 []] 1 with device := .stopping } : State).device = .stopping
    ∧ (∃ m, m ≠ 0 ∧ (((writing .own false true [taken 1 []] 1).setLane 1
        { lane16 with held := 1 }).lane m).held ≠ 0) :=
  ⟨⟨_, rfl, rfl, rfl, rfl⟩, by decide, by decide, by decide, by decide, ⟨_, rfl, rfl⟩, by decide,
    by decide, rfl, by decide⟩

theorem witness_ReturnWriteFails :
    (∃ w, (writing .first true true [taken 1 []] 1).writeChannel = some w ∧ w.kind = .first
        ∧ w.refused = true ∧ w.lane = some 0 ∧ w.attached = true)
    ∧ (writing .first true true [taken 1 []] 1).frozen = false
    ∧ ((writing .first true true [taken 1 []] 1).lane 0).state = .running
    ∧ (∃ w, (writing .own false false [taken 1 []] 1).writeChannel = some w ∧ w.kind = .own
        ∧ w.attached = false) :=
  ⟨⟨_, rfl, rfl, rfl, rfl, rfl⟩, rfl, rfl, ⟨_, rfl, rfl, rfl⟩⟩

theorem witness_FirstAndNoticeWritesEnd :
    (∃ w, (writing .first false true [taken 1 []] 1).writeChannel = some w ∧ w.kind = .first
        ∧ w.refused = false ∧ w.attached = true)
    ∧ (∃ w, (writing .first false false [taken 1 []] 1).writeChannel = some w ∧ w.attached = false)
    ∧ (∃ w, (writing .notice false false [] 0).writeChannel = some w ∧ w.kind = .notice
        ∧ w.refused = false)
    ∧ (∃ w, (writing .errorNotice true false [] 0).writeChannel = some w ∧ w.kind = .errorNotice
        ∧ w.refused = true) :=
  ⟨⟨_, rfl, rfl, rfl, rfl⟩, ⟨_, rfl, rfl⟩, ⟨_, rfl, rfl, rfl⟩, ⟨_, rfl, rfl, rfl⟩⟩

theorem witness_handedOut (s : State) (ha : s.active = true) (he : s.engine 0 = none) : HandedOut 0 s :=
  ⟨ha, .inl ⟨rfl, he⟩⟩

theorem witness_chosen : Chosen pass0 queued0 := by
  unfold Chosen Ranked; decide

theorem witness_ArbiterChoice :
    HandedOut 0 queued0 ∧ Chosen pass0 queued0
    ∧ HandedOut 1 { onRun with engines := onRun.engines.set 0 (some (.pass (work0 [.write] .absent))) }
    ∧ (∀ l, (onRun.lane l).queue = [])
    ∧ ({ srv .keyStage [] with phase := .ready } : ServiceRequest).phase = .ready
    ∧ ({ onRun with transport := some { key := [1], kcv := [2] } } : State).transport
        = some { key := [1], kcv := [2] } :=
  ⟨witness_handedOut _ rfl rfl, witness_chosen, ⟨rfl, .inr ⟨rfl, by decide, rfl, rfl⟩⟩, by decide, rfl, rfl⟩

theorem boundTo_of (s : State) (c : Half) (n : SliceNo)
    (h : (s.binding n).map Binding.issuer = some c)
    (hu : ∀ m, (s.binding m).map Binding.issuer = some c → m = n) : BoundTo s c n := by
  obtain ⟨b, hb, hc⟩ := Option.map_eq_some_iff.mp h
  exact ⟨⟨b, hb, hc⟩, fun m b hm hi => hu m (by simp [hm, hi])⟩

theorem unbound_of (s : State) (c : Half)
    (hu : ∀ m, (s.binding m).map Binding.issuer ≠ some c) : Unbound s c :=
  fun m b hm hi => hu m (by simp [hm, hi])

theorem witness_bound6 (s : State) (h : s.directory = (bound6 onRun).directory) :
    BoundTo s 0x0102 6 := by
  have hb : ∀ m, s.binding m = (bound6 onRun).binding m := fun m => by simp only [State.binding, h]
  exact boundTo_of _ _ _ (by rw [hb]; decide) fun m => by rw [hb]; revert m; decide

theorem witness_unbound : Unbound onRun 0x0102 := unbound_of _ _ (by decide)

theorem witness_LookupVerdicts :
    Unbound onRun 0x0102 ∧ BoundTo (keyed .clean onRun) 0x0102 6 ∧ Carries (keyed .clean onRun) 6 2 41
    ∧ CarriedByNone (keyed .clean onRun) 6 43
    ∧ (∀ k, ¬ (((keyed .clean onRun).slot 6 k).state = .faulty
        ∧ ((keyed .clean onRun).slot 6 k).info = none))
    ∧ ((keyed .clean onRun).slot 6 2).state = .active
    ∧ ((blankSlice 6 (bound6 onRun)).slot 6 0).state = .faulty
    ∧ ((blankSlice 6 (bound6 onRun)).slot 6 0).info = none
    ∧ CarriedByNone (blankSlice 6 (bound6 onRun)) 6 41 := by
  refine ⟨witness_unbound, witness_bound6 _ rfl, ?_, ?_, by decide, rfl, rfl, rfl, ?_⟩
  · unfold Carries; decide
  · unfold CarriedByNone; decide
  · unfold CarriedByNone; decide

/-- `pass0` for generation 41 of issuer 0x0102, queued on a device that holds the key. -/
def bearing0 (e : Ecc) : State :=
  (keyed e onRun).setLane 0 { lane16 with
    held := 1, queue := [{ pass0 with issuer := 0x0102, gen := 41 }] }

/-- The request of `bearing0`. -/
def bearingPass : PassRequest := { pass0 with issuer := 0x0102, gen := 41 }

/-- Slot 0 of slice 0 is the only ACTIVE one and its key reads as given. -/
theorem witness_newestStation (e : Ecc) (s : State)
    (h : ∀ k, k ≠ 0 → (s.slot 0 k).state = .empty) : NewestStation (s.setSlot 0 0 (active 1 0 e)) 0 := by
  refine ⟨by rw [State.slot_setSlot]; rfl, 1, by rw [State.slot_setSlot]; rfl, fun j hj ha => ?_⟩
  rw [State.slot_setSlot, if_neg (by simp [hj]), h j hj] at ha
  contradiction

/-- `bearing0` with a station key in slot 0 of slice 0. -/
def station0 (e f : Ecc) : State := (bearing0 e).setSlot 0 0 (active 1 0 f)

/-- A request that wants evidence, on states whose station key reads clean, corrected and not at all, and
one that wants none. -/
theorem witness_evidence :
    EvidenceDecided bearingPass (bearing0 .clean) none false [] (bearing0 .clean)
    ∧ EvidenceDecided { bearingPass with wantEvidence := true } (station0 .clean .clean)
        (some (List.replicate 16 1)) false [] (station0 .clean .clean)
    ∧ EvidenceDecided { bearingPass with wantEvidence := true } (station0 .clean .correctable)
        (some (List.replicate 16 1)) true [eccReport .correctedEcc 0 0 0] (station0 .clean .correctable)
    ∧ EvidenceDecided { bearingPass with wantEvidence := true } (station0 .clean .uncorrectable)
        none false [eccReport .uncorrectedEcc 0 0 0]
        (makeFaulty 0 0 (station0 .clean .uncorrectable)) := by
  have h : ∀ e, NewestStation (station0 .clean e) 0 := fun e => witness_newestStation e _ (by decide)
  refine ⟨.inl ⟨.inl rfl, rfl, rfl, rfl, rfl⟩, .inr ⟨rfl, rfl, .clean _ 0 _ (h _) rfl rfl⟩,
    .inr ⟨rfl, rfl, .corrected _ 0 _ (h _) rfl rfl⟩,
    .inr ⟨rfl, rfl, .uncorrectable _ 0 _ _ _ _ _ (h _) rfl rfl (.noneLeft _ ?_)⟩⟩
  decide

/-- `bearing0` with the cache entry of its request. -/
def cached0 : State :=
  { bearing0 .clean with
    cache := [{ issuer := 0x0102, gen := 41, tagId := bearingPass.tagId
                ref := { slice := 6, slot := 2, epoch := 7 }, kAuth := [1], kWrite := [2] }] }

/-- The probe hits the entry of the request, and misses when the cache is empty or the entry's epoch is no
longer the slot's. -/
theorem witness_probe :
    (∃ y, ProbeHits cached0 bearingPass { slice := 6, slot := 2, epoch := 7 } y)
    ∧ (∀ e, ProbeMisses (bearing0 e) bearingPass { slice := 6, slot := 2, epoch := 7 })
    ∧ ProbeMisses (cached0.setSlot 6 2 (active 41 8 .clean)) bearingPass
        { slice := 6, slot := 2, epoch := 8 } := by
  refine ⟨⟨_, ⟨List.mem_singleton.2 rfl, rfl, rfl, rfl, rfl, rfl, rfl, .inl rfl⟩,
    fun z hz => List.mem_singleton.1 hz.1⟩, fun e y hy => ?_, ?_⟩
  · exact absurd hy.1 List.not_mem_nil
  · exact (cacheProbe_eq_none_iff (by decide)).1 (by decide)

theorem witness_DispatchKeyBearing :
    HandedOut 0 (bearing0 .clean) ∧ Chosen bearingPass (bearing0 .clean)
    ∧ ((bearing0 .clean).lane 0).state ≠ .halted
    ∧ lookup (bearing0 .clean) bearingPass = .bearing { slice := 6, slot := 2, epoch := 7 }
    ∧ ProbeMisses (bearing0 .clean) bearingPass { slice := 6, slot := 2, epoch := 7 }
    ∧ (∃ c, ((bearing0 .clean).slot 6 2).key = some c ∧ c.ecc = .clean)
    ∧ (∃ c, ((bearing0 .correctable).slot 6 2).key = some c ∧ c.ecc = .correctable)
    ∧ NewestActive (bearing0 .clean) 6 (some 42)
    ∧ (∃ x, EvidenceDecided bearingPass
        { bearing0 .clean with lanes := lanesWithout bearingPass (bearing0 .clean) } none false [] x)
    ∧ (5 * ((2 + (1 + (8 + 0 + 1 + 15) / 16)) + (1 + (8 + 0 + 1 + 15) / 16) : Nat) : Int)
        ≤ (bearingPass.deadline - (bearing0 .clean).gt).toInt
    ∧ lookup cached0 bearingPass = .bearing { slice := 6, slot := 2, epoch := 7 }
    ∧ (∃ y, ProbeHits cached0 bearingPass { slice := 6, slot := 2, epoch := 7 } y) := by
  refine ⟨witness_handedOut _ rfl rfl, ?_, by decide, by decide, witness_probe.2.1 _, ⟨_, rfl, rfl⟩,
    ⟨_, rfl, rfl⟩, ⟨by decide, by decide⟩, ⟨_, .inl ⟨.inl rfl, rfl, rfl, rfl, rfl⟩⟩, by decide, by decide,
    witness_probe.1⟩
  unfold Chosen Ranked; decide

theorem witness_DispatchNoKey :
    HandedOut 0 queued0 ∧ Chosen pass0 queued0 ∧ (queued0.lane 0).state ≠ .halted
    ∧ lookup queued0 pass0 = .noKey .unknownIssuer ∧ NewestGen queued0 pass0 0xFF
    ∧ EvidenceDecided pass0 queued0 none false [] queued0
    ∧ 0 ≤ (pass0.deadline - queued0.gt).toInt ∧ 15 ≤ (pass0.deadline - queued0.gt).toInt
    ∧ (({ pass0 with deadline := 999 } : PassRequest).deadline - queued0.gt).toInt < 0
    ∧ (lookup (bearing0 .uncorrectable) bearingPass = .bearing { slice := 6, slot := 2, epoch := 7 }
      ∧ ProbeMisses (bearing0 .uncorrectable) bearingPass { slice := 6, slot := 2, epoch := 7 }
      ∧ ∃ c, ((bearing0 .uncorrectable).slot 6 2).key = some c ∧ c.ecc = .uncorrectable)
    ∧ NewestGen (makeFaulty 6 2 (bearing0 .uncorrectable)) bearingPass 42 :=
  ⟨witness_handedOut _ rfl rfl, witness_chosen, by decide, by decide,
    .inl ⟨.inr (unbound_of _ _ (by decide)), rfl⟩,
    .inl ⟨.inl rfl, rfl, rfl, rfl, rfl⟩, by decide, by decide, by decide,
    ⟨by decide, witness_probe.2.1 _, ⟨_, rfl, rfl⟩⟩,
    .inr ⟨6, some 42, by decide, boundTo_of _ _ _ (by decide) (by decide), ⟨by decide, by decide⟩, rfl⟩⟩

theorem witness_KeyRamDamage :
    (onRun.slot 6 2).key = none ∧ (∃ c, ((keyed .clean onRun).slot 6 2).key = some c)
    ∧ HandedOut 0 (bearing0 .uncorrectable) ∧ Chosen bearingPass (bearing0 .uncorrectable)
    ∧ lookup (bearing0 .uncorrectable) bearingPass = .bearing { slice := 6, slot := 2, epoch := 7 }
    ∧ ProbeMisses (bearing0 .uncorrectable) bearingPass { slice := 6, slot := 2, epoch := 7 }
    ∧ (∃ c, ((bearing0 .uncorrectable).slot 6 2).key = some c ∧ c.ecc = .uncorrectable)
    ∧ (committing .erase false).nvmOp = some (record (.commit (commit6 .erase false)))
    ∧ (commit6 .erase false).target = .slice 6 0x0102
    ∧ bearingPass.wantEvidence = false
    ∧ 0 ≤ (bearingPass.deadline - (bearing0 .uncorrectable).gt).toInt := by
  refine ⟨rfl, ⟨_, rfl⟩, witness_handedOut _ rfl rfl, ?_, by decide, witness_probe.2.1 _, ⟨_, rfl, rfl⟩,
    rfl, rfl, by decide, by decide⟩
  unfold Chosen Ranked; decide

/-- At the dispatch of 3.10 the free engine 0 takes a request with a serial. -/
theorem witness_LawOfDispatch :
    at2000.engine 0 = none
    ∧ (match exec .dispatch at2000 with
       | .next t =>
         (match t.engine 0 with
          | some (.pass w) => w.serial.isSome
          | _ => false)
       | _ => false) = true := ⟨rfl, by decide⟩

/-- `onRun` with pass work in engine 0. -/
def engaged (w : PassWork) : State := { onRun with engines := onRun.engines.set 0 (some (.pass w)) }

theorem witness_DeriveCompletes :
    (engaged (work0 [.derive, .verify, .write] (.master [1]))).engine 0
        = some (.pass (work0 [.derive, .verify, .write] (.master [1])))
    ∧ (work0 [.derive, .verify, .write] (.master [1])).stages = .derive :: .verify :: [.write]
    ∧ (work0 [.derive, .verify, .write] (.master [1])).ref = some { slice := 6, slot := 2, epoch := 7 }
    ∧ 0 ≤ ((work0 [.derive, .verify, .write] (.master [1])).stageEnd - onRun.gt).toInt :=
  ⟨rfl, rfl, rfl, by decide⟩

/-- The authenticator of `pass0` under a key. -/
def auth0 (ka : Bytes) : Bytes :=
  lkmac ka (lkmacHeader 0x11 pass0.issuer pass0.gen pass0.tagId (8 + pass0.plen) pass0.lane)
    (bytesAt pass0.challenge 0 8 ++ pass0.message.take pass0.plen)

/-- Both verdicts occur: TAG_AUTH the authenticator itself, and nine bytes, which no authenticator
is. -/
theorem witness_VerifyCompletes (ka : Bytes) :
    (engaged (work0 [.verify, .write] (.tag ka [2]))).engine 0
        = some (.pass (work0 [.verify, .write] (.tag ka [2])))
    ∧ auth0 ka = ({ pass0 with tagAuth := auth0 ka } : PassRequest).tagAuth
    ∧ auth0 ka ≠ ({ pass0 with tagAuth := List.replicate 9 0 } : PassRequest).tagAuth
    ∧ 0 ≤ ((work0 [.verify, .write] (.tag ka [2])).stageEnd - onRun.gt).toInt := by
  refine ⟨rfl, rfl, fun h => ?_, show 0 ≤ ((1000 : Word) - 1000).toInt by decide⟩
  have hl : (auth0 ka).length ≤ 8 := by
    unfold auth0 lkmac; exact List.length_take_le _ _
  rw [h] at hl
  simp at hl

theorem witness_WriteAndEvidenceComplete :
    (engaged (work0 [.write, .evidence] (.tag [1] [2]))).engine 0
        = some (.pass (work0 [.write, .evidence] (.tag [1] [2])))
    ∧ (engaged (work0 [.write] (.tag [1] [2]))).engine 0 = some (.pass (work0 [.write] (.tag [1] [2])))
    ∧ (engaged (work0 [.evidence] .absent)).engine 0 = some (.pass (work0 [.evidence] .absent))
    ∧ (work0 [.evidence] .absent).evidenceKey = some [1]
    ∧ (work0 [.evidence] .absent).verdict = some .accept ∧ (work0 [.evidence] .absent).serial = some 9
    ∧ (engaged (work0 [.evidence] .absent)).gantryId = some 7
    ∧ 0 ≤ ((work0 [.evidence] .absent).stageEnd - onRun.gt).toInt :=
  ⟨rfl, rfl, rfl, rfl, rfl, rfl, rfl, by decide⟩

theorem witness_arrived (k : ServiceKind) (sets : List (Nat × Byte)) :
    Arrived k (srv k sets) [] (headed k sets) := ⟨rfl, rfl, rfl, rfl⟩

theorem witness_IssuerRequests :
    Arrived .issuerAdd (srv .issuerAdd []) [] (headed .issuerAdd [])
    ∧ le16 (srv .issuerAdd []).cell.bytes 6 = 0
    ∧ le16 (srv .issuerAdd [(6, 2), (7, 1)]).cell.bytes 6 = 0x0102
    ∧ BoundTo (bound6 (headed .issuerAdd [(6, 2), (7, 1)])) 0x0102 6
    ∧ Unbound onRun 0x0102
    ∧ CommittingDirectory dirCommitting ∧ ¬ CommittingDirectory onRun ∧ onRun.binding 1 = none
    ∧ (∀ m : SliceNo, m ≠ 0 → m.val < (1 : SliceNo).val → onRun.binding m ≠ none)
    ∧ (∀ n, n ≠ 0 → ({ onRun with
        directory := Vector.ofFn fun n => some { issuer := BitVec.ofNat 16 n.val, locked := false, dirty := false } }
        : State).binding n ≠ none)
    ∧ Arrived .issuerRemove (srv .issuerRemove []) [] (headed .issuerRemove [])
    ∧ Arrived .issuerLock (srv .issuerLock []) [] (headed .issuerLock [])
    ∧ (∃ b, (onRun.setBinding 6 (some { issuer := 0x0102, locked := true, dirty := false })).binding 6
        = some b ∧ b.locked = true)
    ∧ (∃ k, ((keyed .clean onRun).slot 6 k).state ≠ .empty) ∧ (∀ k, (onRun.slot 6 k).state = .empty)
    ∧ CommittingSlice (committing .erase false) 6 ∧ ¬ CommittingDirectory (committing .erase false)
    ∧ ¬ CommittingSlice dirCommitting 6 := by
  refine ⟨witness_arrived _ _, by decide, by decide, witness_bound6 _ rfl, witness_unbound,
    witness_committing.1, (witness_not_committing _ 0 rfl).1, rfl, by decide, by decide,
    witness_arrived _ _, witness_arrived _ _, ⟨_, rfl, rfl⟩, by decide, by decide, witness_committing.2.2.1,
    witness_committing.2.1, witness_committing.2.2.2.2⟩

/-- Days 5..5 of generation 43 for a KEY_STAGE of issuer 0x0102. -/
def stageSets : List (Nat × Byte) := [(6, 2), (7, 1), (8, 43), (10, 5), (12, 5)]

theorem witness_KeyStageChecks :
    Arrived .keyStage (srv .keyStage stageSets) [] (headed .keyStage stageSets)
    ∧ BoundTo (keyed .clean (headed .keyStage stageSets)) 0x0102 6
    ∧ ¬ CommittingSlice (keyed .clean (headed .keyStage stageSets)) 6
    ∧ CommittingSlice (committing .erase false) 6
    ∧ (keyed .clean (headed .keyStage stageSets)).transport = none
    ∧ (le16 (srv .keyStage stageSets).cell.bytes 10).toNat
        ≤ (le16 (srv .keyStage stageSets).cell.bytes 12).toNat
    ∧ (le16 (srv .keyStage [(10, 6), (12, 5)]).cell.bytes 12).toNat
        < (le16 (srv .keyStage [(10, 6), (12, 5)]).cell.bytes 10).toNat
    ∧ genRefused (keyed .clean onRun) 6 43 = false ∧ genRefused (keyed .clean onRun) 6 42 = true
    ∧ oldestGen ((keyed .clean onRun).genList 6) = some 41
    ∧ newestGen ((keyed .clean onRun).genList 6) = some 42
    ∧ (∃ k, ((keyed .clean onRun).slot 6 k).state = .empty)
    ∧ (∀ k, ((blankSlice 6 onRun).slot 6 k).state ≠ .empty) := by
  refine ⟨witness_arrived _ _, witness_bound6 _ rfl, (witness_not_committing _ 6 rfl).2,
    witness_committing.2.2.1, rfl, by decide, by decide, by decide, by decide, by decide, by decide,
    by decide, by decide⟩

theorem witness_AdmissibleGenerations :
    onRun.genList 6 = [] ∧ oldestGen ((keyed .clean onRun).genList 6) = some 41
    ∧ newestGen ((keyed .clean onRun).genList 6) = some 42
    ∧ genRefused (keyed .clean onRun) 6 168 = false ∧ genRefused (keyed .clean onRun) 6 169 = true
    ∧ genLaw ((keyed .clean onRun).genList 6) = true := by decide

/-- Cipher work of a service request that ends now, with a KCV to compare. -/
def unwrap0 (kcv : Bytes) : ServiceWork := { transportKey := [1], wrapped := [2], kcv := kcv, workEnd := 1000 }

/-- The KCV of the candidate key of `unwrap0`. -/
def candidateKcv : Bytes := (blockE (blockD [1] [2]) (List.replicate 16 0)).take 3

/-- `onRun` with `unwrap0` in engine 0 for the FIFO head. -/
def unwrapping (k : ServiceKind) (kcv : Bytes) : State :=
  { bound6 onRun with
    engines := onRun.engines.set 0 (some (.service (unwrap0 kcv)))
    fifo := [{ srv k stageSets with phase := .inEngine }] }

/-- Both outcomes occur: the KCV of the candidate, and four bytes, which no KCV comparison meets. -/
theorem witness_KeyStageFills (kcv : Bytes) :
    (unwrapping .keyStage kcv).engine 0 = some (.service (unwrap0 kcv))
    ∧ (unwrapping .keyStage kcv).fifo = { srv .keyStage stageSets with phase := .inEngine } :: []
    ∧ BoundTo (unwrapping .keyStage kcv) 0x0102 6
    ∧ ((unwrapping .keyStage kcv).slot 6 0).state = .empty
    ∧ 0 ≤ ((unwrap0 kcv).workEnd - (unwrapping .keyStage kcv).gt).toInt
    ∧ ¬ CommittingSlice (unwrapping .keyStage kcv) 6
    ∧ ¬ CommittingSlice { unwrapping .keyStage kcv with nvmOp := some dirCommit } 6
    ∧ candidateKcv = (unwrap0 candidateKcv).kcv ∧ candidateKcv ≠ (unwrap0 (List.replicate 4 0)).kcv := by
  refine ⟨rfl, rfl, witness_bound6 _ rfl, rfl, show 0 ≤ ((1000 : Word) - 1000).toInt by decide,
    (witness_not_committing _ 6 rfl).2, ?_, rfl, fun h => ?_⟩
  · rintro ⟨r, c, code, hr, ho, hc⟩
    exact witness_committing.2.2.2.2 ⟨r, c, code, hr, ho, hc⟩
  have hl : candidateKcv.length ≤ 3 := by unfold candidateKcv; exact List.length_take_le _ _
  rw [h] at hl
  simp [unwrap0] at hl

theorem witness_TransportReplace :
    Arrived .transportReplace (srv .transportReplace []) [] (headed .transportReplace [])
    ∧ (headed .transportReplace []).transport = none
    ∧ ({ headed .transportReplace [] with transport := some { key := [1], kcv := [2] } } : State).transport
        ≠ none
    ∧ ¬ CommittingDirectory (headed .transportReplace [])
    ∧ CommittingDirectory dirCommitting
    ∧ (unwrapping .transportReplace [1]).engine 0 = some (.service (unwrap0 [1]))
    ∧ (unwrapping .transportReplace [1]).fifo
        = { srv .transportReplace stageSets with phase := .inEngine } :: []
    ∧ candidateKcv = (unwrap0 candidateKcv).kcv := by
  refine ⟨witness_arrived _ _, rfl, by decide, (witness_not_committing _ 0 rfl).1, witness_committing.1,
    rfl, rfl, rfl⟩

/-- A KEY_REVOKE or KEY_ERASE of generation 41 of issuer 0x0102, at the head. -/
def headed41 (k : ServiceKind) : State := keyed .clean (headed k [(6, 2), (7, 1), (8, 41)])

theorem witness_KeyRevokeAndErase :
    Arrived .keyRevoke (srv .keyRevoke [(6, 2), (7, 1), (8, 41)]) [] (headed41 .keyRevoke)
    ∧ Arrived .keyErase (srv .keyErase [(6, 2), (7, 1), (8, 41)]) [] (headed41 .keyErase)
    ∧ BoundTo (headed41 .keyRevoke) 0x0102 6 ∧ Carries (headed41 .keyRevoke) 6 2 41
    ∧ ((headed41 .keyRevoke).slot 6 2).live = true ∧ ((headed41 .keyErase).slot 6 2).state = .active
    ∧ ¬ CommittingSlice (headed41 .keyErase) 6 ∧ CommittingSlice (committing .erase false) 6
    ∧ CarriedByNone (headed41 .keyErase) 6 43
    ∧ (((headed41 .keyErase).setSlot 6 2
        { active 41 7 .clean with state := .revoked }).slot 6 2).state = .revoked
    ∧ (∃ b, (headed41 .keyErase).binding 6 = some b ∧ b.locked = false)
    ∧ ((blankSlice 6 (headed41 .keyErase)).slot 6 0).info = none := by
  refine ⟨⟨rfl, rfl, rfl, rfl⟩, ⟨rfl, rfl, rfl, rfl⟩, witness_bound6 _ rfl, ?_, rfl, rfl,
    (witness_not_committing _ 6 rfl).2, witness_committing.2.2.1, ?_, rfl, ⟨_, rfl, rfl⟩, rfl⟩
  · unfold Carries; decide
  · unfold CarriedByNone; decide

theorem witness_SetDay :
    Arrived .setDay (srv .setDay [(6, 9)]) [] (headed .setDay [(6, 9)])
    ∧ le16 (srv .setDay [(6, 9)]).cell.bytes 6 = 9
    ∧ (9 : Half).toNat < ({ headed .setDay [(6, 9)] with currentDay := 10 } : State).currentDay.toNat
    ∧ (9 : Half) = ({ headed .setDay [(6, 9)] with currentDay := 9 } : State).currentDay
    ∧ ({ headed .setDay [(6, 9)] with currentDay := 8 } : State).currentDay.toNat < (9 : Half).toNat
    ∧ ¬ CommittingDirectory (headed .setDay [(6, 9)]) ∧ CommittingDirectory dirCommitting
    ∧ ((keyed .clean onRun).slot 6 2).live = true ∧ (keyed .clean onRun).binding 6 ≠ none := by
  refine ⟨witness_arrived _ _, by decide, by decide, by decide, by decide,
    (witness_not_committing _ 0 rfl).1, witness_committing.1, rfl, by decide⟩

theorem witness_LogRead :
    Arrived .logRead (srv .logRead []) [] (headed .logRead []) ∧ (headed .logRead []).errorLog = none
    ∧ ({ headed .logRead [] with errorLog := some (busRecord 3) } : State).errorLog = some (busRecord 3) :=
  ⟨witness_arrived _ _, rfl, rfl⟩

theorem witness_LaneStopAndResume :
    Arrived .laneStop (srv .laneStop [(6, 15)]) [] (headed .laneStop [(6, 15)])
    ∧ 16 ≤ (byteAt (srv .laneStop [(6, 16)]).cell.bytes 6).toNat
    ∧ (byteAt (srv .laneStop [(6, 15)]).cell.bytes 6).toNat = (15 : LaneNo).val
    ∧ ((headed .laneStop [(6, 15)]).lane 15).state = .running
    ∧ ((onRun.setLane 15 .initial).lane 15).state ≠ .running
    ∧ ((headed .laneStop [(6, 15)]).lane 0).state ≠ .halted
    ∧ ((onRun.setLane 0 { lane16 with pendingExt := [taken 1 []] }).lane 0).pendingExt ≠ []
    ∧ Arrived .laneResume (srv .laneResume [(8, 15)]) [] (headed .laneResume [(8, 15)])
    ∧ (le16 (srv .laneResume [(8, 15)]).cell.bytes 8).toNat < lane16.config.stripLen
    ∧ lane16.config.stripLen ≤ (le16 (srv .laneResume [(8, 16)]).cell.bytes 8).toNat
    ∧ ((marks false false false .halted).lane 0).held = 0
    ∧ 0 < (({ lane16 with state := .halted, held := 1 } : Lane)).held
    ∧ ((marks false false false .paused).lane 0).state = .paused := by
  refine ⟨witness_arrived _ _, by decide, by decide, rfl, by decide, by decide, by decide,
    witness_arrived _ _, by decide, by decide, rfl, by decide, rfl⟩

theorem witness_CommitAtHead :
    Arrived .commit (srv .commit [(8, 1)]) [] (headed .commit [(8, 1)])
    ∧ nvmWf (headed .commit [(8, 1)]).nvm = true
    ∧ (byteAt (srv .commit [(8, 3)]).cell.bytes 8 ≠ 0x01 ∧ byteAt (srv .commit [(8, 3)]).cell.bytes 8 ≠ 0x02)
    ∧ byteAt (srv .commit [(8, 1)]).cell.bytes 8 = 0x01
    ∧ byteAt (srv .commit [(8, 2)]).cell.bytes 8 = 0x02
    ∧ (committing .erase false).nvmOp ≠ none ∧ (headed .commit [(8, 1)]).nvmOp = none
    ∧ (headed .commit [(8, 1)]).dirDirty = false
    ∧ ({ headed .commit [(8, 2)] with dirDirty := true } : State).dirDirty = true
    ∧ BoundTo (bound6 onRun) 0x0102 6 ∧ Unbound onRun 0x0102
    ∧ (∀ k, ((bound6 onRun).slot 6 k).holdsKey = false)
    ∧ ((keyed .uncorrectable onRun).slot 6 2).holdsKey = true
    ∧ (∀ k, ((keyed .uncorrectable onRun).slot 6 k).holdsKey = true →
        ((keyed .uncorrectable onRun).slot 6 k).key.isSome = true) := by
  refine ⟨witness_arrived _ _, rfl, by decide, by decide, by decide, by decide, rfl, rfl, rfl,
    witness_bound6 _ rfl, witness_unbound, by decide, by decide, by decide⟩

theorem witness_commit_in_flight (st : CommitStep) (remark : Bool) :
    (committing st remark).nvmOp = some (record (.commit (commit6 st remark)))
    ∧ nvmWf (committing st remark).nvm = true
    ∧ 0 ≤ ((record (.commit (commit6 st remark))).stepEnd - (committing st remark).gt).toInt
    ∧ (∃ n code, (commit6 st remark).target = .slice n code ∧ (some n = some (6 : SliceNo))) :=
  ⟨rfl, rfl, show 0 ≤ ((1000 : Word) - 1000).toInt by decide, ⟨6, _, rfl, rfl⟩⟩

/-- A COMMIT in flight whose lane 0 is HALTED with `held` cells held, in a device state. -/
def haltedCommit (st : CommitStep) (held : Nat) (d : DeviceState) : State :=
  { committing st false with
    device := d
    lanes := (Vector.replicate 16 { lane16 with state := .paused }).set 0
      { lane16 with state := .halted, held := held } }

theorem haltedCommit_none_held (st : CommitStep) :
    ∀ m, m ≠ 0 → ((haltedCommit st 1 .stopping).lane m).held = 0 := by
  have h : ∀ m, m ≠ 0 → ((haltedCommit .erase 1 .stopping).lane m).held = 0 := by decide
  exact h

/-- The lane of a COMMIT in flight HALTED: its cell is dropped, and in STOPPING with no other cell held the
device enters STOPPED. -/
theorem witness_cellDropped (st : CommitStep) :
    (commit6 st false).cell = some (taken 2 [])
    ∧ (∀ n d, ((haltedCommit st n d).lane 0).state = .halted)
    ∧ (haltedCommit st 2 .running).device ≠ .stopping
    ∧ 1 < ((haltedCommit st 2 .stopping).lane 0).held
    ∧ (haltedCommit st 1 .stopping).device = .stopping
    ∧ ((haltedCommit st 1 .stopping).lane 0).held ≤ 1
    ∧ (∀ m, m ≠ 0 → ((haltedCommit st 1 .stopping).lane m).held = 0)
    ∧ CellDropped 0 (haltedCommit st 2 .running) (releaseCells 0 1 (haltedCommit st 2 .running))
    ∧ CellDropped 0 (haltedCommit st 1 .stopping) (releaseCells 0 1 (haltedCommit st 1 .stopping)) :=
  ⟨rfl, fun _ _ => rfl, show DeviceState.running ≠ .stopping by decide, show 1 < 2 by decide, rfl,
    show 1 ≤ 1 by decide, haltedCommit_none_held st,
    cellDropped_releaseCells _ _ (show LaneState.halted ≠ .draining by decide),
    cellDropped_releaseCells _ _ (show LaneState.halted ≠ .draining by decide)⟩

theorem witness_CommitSucceeds :
    (commit6 .erase false).step = .erase ∧ (commit6 (.program 70) false).step = .program 70
    ∧ (70 : Nat) ≠ 71 ∧ (commit6 (.program 71) true).step = .program 71
    ∧ (commit6 .erase false).cell = some (taken 2 [])
    ∧ ((committing .erase false).lane 0).state ≠ .halted := by decide

theorem witness_CommitFails :
    (commit6 (.spoil none) false).step = .spoil none
    ∧ (commit6 (.spoil (some 71)) false).step = .spoil (some 71)
    ∧ ({ commit6 (.spoil none) false with cell := none } : CommitOp).cell = none := by decide

theorem witness_DirectoryImageReadsBack :
    (wordsToBytes (directoryImage State.reset)).take 320 = wordsToBytes (directoryImage State.reset)
    ∧ (∃ x, State.reset.binding 0 = some x ∧ x.issuer = 0) ∧ State.reset.transport = none := by
  refine ⟨by decide +kernel, ⟨_, rfl, rfl⟩, rfl⟩

theorem witness_SliceImageReadsBack :
    (wordsToBytes (sliceImage State.reset 3 0x0102)).take 288
        = wordsToBytes (sliceImage State.reset 3 0x0102)
    ∧ genLaw (State.reset.genList 3) = true
    ∧ (∀ k, SlotSound State.reset.currentDay (State.reset.slot 3 k)) := by
  refine ⟨by decide +kernel, by decide, fun k => ?_⟩
  have h : State.reset.slot 3 k = Slot.initial := by
    simp [State.slot, State.reset]
  rw [h]
  exact ⟨fun _ => ⟨rfl, rfl⟩, by decide, fun h => absurd h (by decide), by simp [Slot.initial],
    fun h => absurd h (by decide)⟩

/-- A sound slot that holds a key. -/
theorem witness_SlotSound_active : SlotSound 5 (active 41 7 .clean) := by
  refine ⟨by decide, by decide, fun _ => ⟨_, _, rfl, rfl, rfl, rfl, rfl⟩, ?_, ?_⟩
  · intro i h; cases h; decide
  · intro _ i h; cases h; decide

theorem witness_OptionRecordRead :
    State.reset.load = some { step := .optionRead, stepEnd := 40 }
    ∧ 0 ≤ ((40 : Word) - State.reset.gt).toInt ∧ nvmWf State.reset.nvm = true
    ∧ 16 < (byteAt (readSector State.reset.nvm 0) 0).toNat
    ∧ le32 (readSector State.reset.nvm 0) 8 = 0xFFFFFFFF
    ∧ le32 (readSector [(8, 0x00)] 0) 8 ≠ 0xFFFFFFFF := by decide +kernel

/-- An option record that is valid: lane limit 16, engine count 2, action FAULT_ONLY. -/
def optionBytes : Bytes := [16, 2, 2, 0]

theorem witness_OptionRecordRead_valid :
    crc32 ((optionBytes ++ leBytes32 (crc32 optionBytes)).take 4)
        = le32 (optionBytes ++ leBytes32 (crc32 optionBytes)) 4
    ∧ 1 ≤ (byteAt optionBytes 0).toNat ∧ (byteAt optionBytes 0).toNat ≤ 16
    ∧ 1 ≤ (byteAt optionBytes 1).toNat ∧ (byteAt optionBytes 1).toNat ≤ 2 ∧ byteAt optionBytes 2 = 0x02 := by
  decide +kernel

/-- A device in LOADING at a step that ends now. -/
def loadingAt (st : LoadStep) : State :=
  { State.reset with load := some { step := st, stepEnd := 40 }, gt := 40 }

theorem witness_StartCounted :
    (loadingAt .counterRead).load = some { step := .counterRead, stepEnd := 40 }
    ∧ 0 ≤ ((40 : Word) - (loadingAt .counterRead).gt).toInt ∧ nvmWf (loadingAt .counterRead).nvm = true
    ∧ (nvmWord (loadingAt .counterRead).nvm 1 0).getLsbD 0 = true
    ∧ ({ loadingAt .counterProgram with
          nvmOp := some { op := .startCount 0 0xFFFFFFFE 0, startGt := 20, stepEnd := 40 } } : State).nvmOp
        = some { op := .startCount 0 0xFFFFFFFE 0, startGt := 20, stepEnd := 40 }
    ∧ (loadingAt .counterProgram).load ≠ none
    ∧ ({ loadingAt .counterProgram with device := .faulted, load := none } : State).load = none
    ∧ (∀ k, k < 1 → nvmWord [(512, 0xFE)] 1 k ≠ 0) ∧ (nvmWord [(512, 0xFE)] 1 0).getLsbD 0 = false
    ∧ (nvmWord [(512, 0xFE)] 1 0).getLsbD 1 = true
    ∧ 1 = ((List.range 128).map fun i =>
        ((List.range 32).filter fun b => !(nvmWord [(512, 0xFE)] 1 i).getLsbD b).length).sum := by
  decide +kernel

/-- A full start counter: every word of sector 1 is 0. -/
theorem witness_StartCounted_full :
    ∀ k, k < 128 → nvmWord (nvmPutBytes [] 512 (List.replicate 512 0)) 1 k = 0 := by
  intro k hk
  have hb : ∀ a, 512 ≤ a → a < 1024 → nvmGet (nvmPutBytes [] 512 (List.replicate 512 0)) a = 0 := by
    intro a h1 h2
    rw [nvmGet_nvmPutBytes rfl, List.length_replicate, if_pos ⟨h1, by omega⟩, byteAt,
      List.getD_replicate _ (by omega)]
  have h4 : wordAddr 1 k = 512 + 4 * k := rfl
  simp only [nvmWord, h4]
  rw [hb _ (by omega) (by omega), hb _ (by omega) (by omega), hb _ (by omega) (by omega),
    hb _ (by omega) (by omega)]
  rfl

/-- The directory image of the base state, with its CRC (R130, 10.5). -/
def baseImage : Bytes :=
  [0, 0, 0, 0, 0, 0, 0, 0xA5] ++ List.replicate 304 0 ++ leBytes32 0x2C3C4028 ++ leBytes32 0x6A3C5A96

/-- The image of a slice with 8 EMPTY slots for issuer 0x0000, with its CRC (R129, 10.5). -/
def emptyImage : Bytes := List.replicate 280 0 ++ leBytes32 0x84FAD56C ++ leBytes32 0x6A3C5A96

theorem test_base_image_valid : directoryValid baseImage = true := by decide +kernel

theorem test_empty_slice_image_valid : sliceValid emptyImage 0 = true := by decide +kernel

theorem witness_ImagesLoaded :
    (loadingAt .directoryRead).load = some { step := .directoryRead, stepEnd := 40 }
    ∧ directoryValid (readSector (loadingAt .directoryRead).nvm 2) = false
    ∧ directoryValid baseImage = true
    ∧ (loadingAt (.sliceRead 0)).load = some { step := .sliceRead 0, stepEnd := 40 }
    ∧ (loadingAt (.sliceRead 0)).binding 0 = some { issuer := 0, locked := false, dirty := false }
    ∧ sliceValid (readSector (loadingAt (.sliceRead 0)).nvm 3) 0 = false
    ∧ sliceValid emptyImage 0 = true
    ∧ (∃ y, ((keyed .clean (loadingAt (.kcvCheck 6 2))).slot 6 2).key = some y)
    ∧ (∀ m : SliceNo, (6 : SliceNo).val < m.val → (bound6 State.reset).binding m = none)
    ∧ (bound6 State.reset).binding 6 ≠ none
    ∧ (commit6 (.spoil (some 71)) false).step = .spoil (some 71)
    ∧ nvmWf (committing (.spoil (some 71)) false).nvm = true := by
  refine ⟨rfl, by decide +kernel, test_base_image_valid, rfl, rfl, by decide +kernel,
    test_empty_slice_image_valid, ⟨_, rfl⟩, by decide, by decide, rfl, rfl⟩

/-- A zeroize at a step that ends now. -/
def zeroizingAt (st : ZeroizeStep) (failed : Bool) : State :=
  { onStop with
    device := .zeroizing, gt := 1000, nvmOp := some (record (.zeroize st failed)) }

theorem witness_ZeroizeSteps :
    (∀ st f, (zeroizingAt st f).nvmOp
        = some { op := .zeroize st f, startGt := 900, stepEnd := 1000 })
    ∧ 0 ≤ ((1000 : Word) - (zeroizingAt .mark false).gt).toInt
    ∧ nvmWf (zeroizingAt .mark false).nvm = true
    ∧ (33 : Nat) < 34 ∧ (33 : Nat) = 3 + (30 : SliceNo).val ∧ (34 : Nat) = 3 + (31 : SliceNo).val :=
  ⟨fun _ _ => rfl, by decide, rfl, by decide, rfl, rfl⟩

/-! ### The laws: the reset state meets them, and steps are taken from it -/

theorem witness_ControlLaw : ControlLaw State.reset :=
  ⟨by decide, by decide, by decide, by decide, fun _ => by decide⟩

theorem witness_HeldLaw : HeldLaw State.reset :=
  ⟨by decide, fun r h => by simp [State.reset] at h, by decide⟩

theorem witness_LaneLaw : LaneLaw State.reset :=
  ⟨fun _ => by decide, by decide, fun r h => by simp [State.reset] at h⟩

theorem witness_CacheLaw : CacheLaw State.reset := ⟨by decide, by decide⟩

theorem witness_ArrayLawKept :
    MemoryLaw State.reset ∧ ZeroizeRange State.reset ∧ ∃ t, step State.reset = .next t :=
  ⟨⟨rfl, rfl⟩, fun r sector f h => by simp [State.zeroizeOp, State.reset] at h, _, rfl⟩

theorem witness_DirectoryLaw : DirectoryLaw State.reset := by
  have h : ∀ m b, State.reset.binding m = some b → m = 0 := by
    intro m b hm
    have hn : ∀ m, m ≠ 0 → State.reset.binding m = none := by decide
    by_contra hc
    rw [hn m hc] at hm
    contradiction
  exact ⟨fun m n b c hm hn _ => by rw [h m b hm, h n c hn], fun _ => ⟨_, rfl, rfl⟩⟩

theorem witness_ControlLawKept : ControlLaw State.reset ∧ ∃ t, step State.reset = .next t :=
  ⟨witness_ControlLaw, _, rfl⟩

theorem witness_LaneLawsKept :
    ControlLaw State.reset ∧ HeldLaw State.reset ∧ LaneLaw State.reset
    ∧ ∃ t, step State.reset = .next t :=
  ⟨witness_ControlLaw, witness_HeldLaw, witness_LaneLaw, _, rfl⟩

theorem witness_SlotLaw : SlotLaw State.reset := by
  have hs : ∀ n k, State.reset.slot n k = Slot.initial := fun n k => by simp [State.slot, State.reset]
  refine ⟨by simp [State.reset], fun _ _ _ n k => by rw [hs]; rfl, ?_, fun _ => ⟨rfl, rfl⟩,
    fun n k _ => by rw [hs]; exact ⟨rfl, rfl⟩, fun _ n _ k => by rw [hs]; rfl,
    fun n k i h => by rw [hs] at h; exact absurd h (by decide)⟩
  rintro x n hx h
  obtain rfl : { step := .optionRead, stepEnd := 40 } = x := Option.some.inj hx
  rcases h with h | ⟨_, h⟩ <;> exact absurd h (by simp)

theorem witness_GenerationLaw : GenerationLaw State.reset := by
  have hs : ∀ n k, (State.reset.slot n k).gen? = none := fun n k => by
    simp [State.slot, State.reset, Slot.gen?, Slot.initial]
  exact ⟨by simp [hs], by simp [hs], by simp [State.reset], by simp [State.reset]⟩

theorem witness_ServingLaw : ServingLaw State.reset ∧ NoWrapAhead State.reset := by
  have he : ∀ e, State.reset.engine e = none := by decide
  exact ⟨⟨by simp [State.reset], by simp [he]⟩, by simp [NoWrapAhead, he]⟩

/-- A state with a cache entry whose slot serves it, and with a request in an engine. -/
theorem witness_ServingLaw_cached :
    ServingLaw { cached0 with engines := cached0.engines.set 0 (some (.pass (work0 [.derive] .absent))) }
    ∧ NoWrapAhead { cached0 with
        engines := cached0.engines.set 0 (some (.pass (work0 [.derive] .absent))) } := by
  have h : ∀ (e : EngineNo) w ref,
      ({ cached0 with engines := cached0.engines.set 0 (some (.pass (work0 [.derive] .absent))) }
        : State).engine e = some (.pass w) → w.ref = some ref →
      ref = { slice := 6, slot := 2, epoch := 7 } := by
    intro e w ref he hr
    have hc : e = 0 ∨ e = 1 := (by decide : ∀ e : EngineNo, e = 0 ∨ e = 1) e
    rcases hc with rfl | rfl
    · obtain rfl : work0 [.derive] .absent = w := by
        have := Option.some.inj (show some (EngineWork.pass (work0 [.derive] .absent)) = _ from he)
        injection this
      exact (Option.some.inj hr).symm
    · exact absurd (show (none : Option EngineWork) = _ from he) (by simp)
  refine ⟨⟨fun x hx => ?_, fun e w ref he hr => ?_⟩, fun e w ref he hr => ?_⟩
  · obtain rfl := List.mem_singleton.1 hx
    exact ⟨.inl rfl, rfl⟩
  · obtain rfl := h e w ref he hr
    exact ⟨show (7 : Half).toNat ≤ (7 : Half).toNat by decide, fun _ => .inl rfl⟩
  · obtain rfl := h e w ref he hr
    exact show (7 : Half) ≠ 0xFFFF by decide

theorem witness_KeyStoreLawsKept :
    ControlLaw State.reset ∧ DirectoryLaw State.reset ∧ CacheLaw State.reset ∧ LaneLaw State.reset
    ∧ SlotLaw State.reset ∧ GenerationLaw State.reset ∧ NoWrapAhead State.reset ∧ ServingLaw State.reset
    ∧ ∃ t, step State.reset = .next t :=
  ⟨witness_ControlLaw, witness_DirectoryLaw, witness_CacheLaw, witness_LaneLaw, witness_SlotLaw,
    witness_GenerationLaw, witness_ServingLaw.2, witness_ServingLaw.1, _, rfl⟩

/-- A state in each of the conditions that only a cold reset undoes, and a command that runs in it. -/
theorem witness_OnlyColdResetUndoes :
    (∀ s, s = { State.reset with lock := true }
        ∨ s = { onRun with device := .faulted, tamperFault := true }
        ∨ s = { onRun with device := .zeroized } →
      ControlLaw s ∧ ∃ t, exec .tamperRelease s = .next t)
    ∧ Instr.tamperRelease ≠ .coldReset ∧ Instr.tamperRelease ≠ .tamperAssert
    ∧ Instr.tamperRelease ≠ .directoryImageReadEnd := by
  refine ⟨?_, by decide, by decide, by decide⟩
  rintro s (rfl | rfl | rfl) <;>
    exact ⟨⟨by decide, by decide, by decide, by decide, fun _ => by decide⟩, _, rfl⟩

theorem witness_FrozenTrafficStands :
    ControlLaw { onRun with device := .faulted } ∧ ({ onRun with device := .faulted } : State).frozen = true
    ∧ (∃ t, exec .tamperRelease { onRun with device := .faulted } = .next t ∧ t.frozen = true) :=
  ⟨⟨by decide, by decide, by decide, by decide, fun _ => by decide⟩, rfl, ⟨_, rfl, rfl⟩⟩

end Sys2Proof.Tests
end

section
namespace Sys2Proof.Machine

/-! ## Traffic that stands -/

/-- Every read of a lane in flight in `t` is a read of the same lane in flight in `s`. -/
def ReadsWithin (s t : State) : Prop :=
  ∀ r, t.readChannel = .cell r → ∃ q, s.readChannel = .cell q ∧ q.lane = r.lane

theorem ReadsWithin.of_eq {s t : State} (h : t.readChannel = s.readChannel) : ReadsWithin s t :=
  fun r hr => ⟨r, h ▸ hr, rfl⟩

theorem ReadsWithin.trans {s t u : State} (h : ReadsWithin s t) (g : ReadsWithin t u) :
    ReadsWithin s u := by
  intro r hr
  obtain ⟨q, hq, hqr⟩ := g r hr
  obtain ⟨p, hp, hpq⟩ := h q hq
  exact ⟨p, hp, hpq.trans hqr⟩

theorem ReadsWithin.of_discard {s t : State} (h : t.readChannel = discardRead s.readChannel) :
    ReadsWithin s t := by
  intro r hr
  rw [h] at hr
  cases hs : s.readChannel with
  | free => simp [hs, discardRead] at hr
  | cell q =>
    simp only [hs, discardRead, ReadChannel.cell.injEq] at hr
    exact ⟨q, rfl, by rw [← hr]⟩
  | station a => simp [hs, discardRead] at hr

theorem ReadsWithin.of_stale {s t : State} {l : LaneNo}
    (h : t.readChannel = staleRead l s.readChannel) : ReadsWithin s t := by
  intro r hr
  rw [h] at hr
  cases hs : s.readChannel with
  | free => simp [hs, staleRead] at hr
  | cell q =>
    simp only [hs, staleRead, ReadChannel.cell.injEq] at hr
    exact ⟨q, rfl, by rw [← hr]⟩
  | station a => simp [hs, staleRead] at hr

/-- From `s` to `t` no lane, no service request and no take number moves, no read of a lane begins, and
the device keeps its state, freezes, or ends its load. -/
structure Quiet (s t : State) : Prop where
  lanes : t.lanes = s.lanes
  fifo : t.fifo = s.fifo
  takes : t.takeCounter = s.takeCounter
  device : t.device = s.device ∨ t.frozen = true ∨ (s.device = .loading ∧ t.device = .stopped)
  reads : ReadsWithin s t

/-- Traffic fields, device state and read channel all stand. -/
theorem Quiet.of_fields {s t : State} (hl : t.lanes = s.lanes) (hf : t.fifo = s.fifo)
    (ht : t.takeCounter = s.takeCounter) (hd : t.device = s.device)
    (hr : t.readChannel = s.readChannel) : Quiet s t :=
  ⟨hl, hf, ht, .inl hd, .of_eq hr⟩

theorem Quiet.refl (s : State) : Quiet s s := .of_fields rfl rfl rfl rfl rfl

/-- Frozen is a matter of the device state alone. -/
theorem frozen_congr {s t : State} (h : t.device = s.device) : t.frozen = s.frozen := by
  simp only [State.frozen, h]

theorem Quiet.trans {s t u : State} (h : Quiet s t) (g : Quiet t u) : Quiet s u := by
  refine ⟨g.lanes.trans h.lanes, g.fifo.trans h.fifo, g.takes.trans h.takes, ?_, h.reads.trans g.reads⟩
  rcases g.device with hu | hu | ⟨ht, hu⟩
  · rw [frozen_congr hu, hu]; exact h.device
  · exact .inr (.inl hu)
  · rcases h.device with hs | hs | ⟨_, hs⟩
    · exact .inr (.inr ⟨hs ▸ ht, hu⟩)
    · simp [State.frozen, ht] at hs
    · rw [hs] at ht; cases ht

/-- `Quiet.trans` with the later part first. -/
theorem Quiet.after {s t u : State} (g : Quiet t u) (h : Quiet s t) : Quiet s u := h.trans g

theorem Quiet.lane {s t : State} (h : Quiet s t) (l : LaneNo) : t.lane l = s.lane l :=
  State.lane_congr h.lanes l

/-- Where the device is neither STOPPED, RUNNING nor STOPPING, a report records itself only. -/
theorem raiseReport_of_not_haltable {r : Report} {s : State} (h : s.haltable = false) :
    (raiseReport r s).device = s.device ∧ (raiseReport r s).readChannel = s.readChannel
      ∧ (raiseReport r s).engines = s.engines ∧ (raiseReport r s).startReq = s.startReq := by
  rcases raiseReport_cases r s with e | e | ⟨hh, _, _⟩
  · rw [e]; exact ⟨rfl, rfl, rfl, rfl⟩
  · rw [e]; exact ⟨rfl, rfl, rfl, rfl⟩
  · rw [h] at hh; cases hh

theorem recordReport_quiet (r : Report) (s : State) : Quiet s (recordReport r s) :=
  .of_fields rfl rfl rfl rfl rfl

theorem raiseErrorNotice_quiet (c : ErrClass) (s : State) : Quiet s (raiseErrorNotice c s) :=
  .of_fields rfl rfl rfl rfl rfl

theorem enterFaulted_quiet (s : State) : Quiet s (enterFaulted s) :=
  ⟨rfl, rfl, rfl, .inr (.inl rfl), .of_discard rfl⟩

theorem raiseReports_quiet (rs : List Report) (s : State) : Quiet s (raiseReports rs s) :=
  raiseReports_induction (p := Quiet s) (fun r _ h => h.trans (recordReport_quiet r _))
    (fun c _ h => h.trans (raiseErrorNotice_quiet c _))
    (fun _ _ h => h.trans (enterFaulted_quiet _)) rs s (.refl s)

theorem raiseReport_quiet (r : Report) (s : State) : Quiet s (raiseReport r s) :=
  raiseReports_quiet [r] s

/-! ### Tamper -/

theorem zeroizeResponse_quiet (s : State) : Quiet s (zeroizeResponse s) := by
  unfold zeroizeResponse
  rw [cutNvm_frame]
  exact ⟨rfl, rfl, rfl, .inr (.inl rfl), .of_discard rfl⟩

theorem faultOnlyResponse_quiet (s : State) : Quiet s (faultOnlyResponse s) :=
  ⟨rfl, rfl, rfl, .inr (.inl rfl), .of_discard rfl⟩

theorem tamperResponse_quiet (s : State) : Quiet s (tamperResponse s) := by
  unfold tamperResponse
  split
  · exact zeroizeResponse_quiet s
  · exact faultOnlyResponse_quiet s

theorem tamperAssertion_quiet (s : State) : Quiet s (tamperAssertion s) := by
  have hr := raiseReport_quiet tamperReport s
  unfold tamperAssertion
  split
  · exact .refl s
  · exact hr
  · split_ifs
    · exact hr
    · exact hr.trans (tamperResponse_quiet _)
  all_goals exact hr.trans (tamperResponse_quiet _)

/-! ### Key reads and snapshots -/

theorem makeFaulty_quiet (n : SliceNo) (k : SlotNo) (s : State) : Quiet s (makeFaulty n k s) :=
  .of_fields rfl rfl rfl rfl rfl

theorem masterRead_quiet (s : State) (r : PassRequest) (ref : SlotRef) :
    Quiet s (masterRead s r ref).state := by
  unfold masterRead
  split
  · exact .refl s
  · exact .refl s
  · exact makeFaulty_quiet _ _ s

theorem findKey_quiet (s : State) (r : PassRequest) : Quiet s (findKey s r).state := by
  unfold findKey
  split
  · exact .refl s
  · split
    · exact .of_fields rfl rfl rfl rfl rfl
    · exact masterRead_quiet s r _

theorem readEvidence_quiet (lane : LaneNo) (fuel : Nat) (s : State) :
    Quiet s (readEvidence lane fuel s).state := by
  induction fuel generalizing s with
  | zero => exact .refl s
  | succ fuel ih =>
    unfold readEvidence
    split
    · exact .refl s
    · split
      · exact .refl s
      · exact .refl s
      · exact (makeFaulty_quiet 0 _ s).trans (ih _)

theorem decideEvidence_quiet (s : State) (r : PassRequest) : Quiet s (decideEvidence s r).state := by
  unfold decideEvidence
  split
  · exact readEvidence_quiet _ _ s
  · exact .refl s

theorem snapshotReads_quiet (lane : LaneNo) (n : SliceNo) (ks : List SlotNo) (s : State) :
    Quiet s (snapshotReads lane n ks s).1 := by
  induction ks generalizing s with
  | nil => exact .refl s
  | cons k ks ih =>
    unfold snapshotReads
    split
    · split
      · exact ih s
      · exact ih s
      · exact (makeFaulty_quiet n k s).trans (ih _)
    · exact ih s

theorem snapshotState_quiet (lane : LaneNo) (t : CommitTarget) (s : State) :
    Quiet s (snapshotState lane t s).1 := by
  cases t with
  | directory => exact .refl s
  | slice n _ => exact snapshotReads_quiet lane n _ s

theorem spendSerial_quiet (s : State) : Quiet s (spendSerial s) := by
  unfold spendSerial
  split <;> exact .of_fields rfl rfl rfl rfl rfl

theorem makeOffer_quiet (w : PassWork) (keys : KeyMaterial) (s : State) :
    Quiet s (makeOffer w keys s) := by
  unfold makeOffer cacheOffer
  split
  · split <;> exact .of_fields rfl rfl rfl rfl rfl
  · exact .refl s

end Sys2Proof.Machine
end

section
namespace Sys2Proof.Machine

/-! ## Lanes that only give up -/

/-- From `s` to `t` the held-count law and the lane-state law are kept. -/
def KeepsLaneLaws (s t : State) : Prop := (HeldLaw s → HeldLaw t) ∧ (LaneLaw s → LaneLaw t)

theorem KeepsLaneLaws.refl (s : State) : KeepsLaneLaws s s := ⟨id, id⟩

theorem KeepsLaneLaws.trans {s t u : State} (h : KeepsLaneLaws s t) (g : KeepsLaneLaws t u) :
    KeepsLaneLaws s u := ⟨g.1 ∘ h.1, g.2 ∘ h.2⟩

/-- From `s` to `t` lanes only give up: held counts fall, no lane begins to run or leaves DISABLED, a lane
is PAUSED with no held cell only, waiting service requests are a part of those that waited and their lanes
keep running, no read of a lane begins, and the device keeps its state, freezes, or ends its load or
STOPPING with every lane DISABLED. -/
structure LanesFall (s t : State) : Prop where
  held : ∀ l, (t.lane l).held ≤ (s.lane l).held
  paused : ∀ l, (t.lane l).state = .paused → (s.lane l).state = .paused ∨ (t.lane l).held = 0
  disabled : ∀ l, (s.lane l).state = .disabled → (t.lane l).state = .disabled
  running : ∀ l, (t.lane l).state = .running → (s.lane l).state = .running
  waiting : ∀ r ∈ t.fifo, r.phase ≠ .inEngine →
    (∃ q ∈ s.fifo, q.lane = r.lane ∧ q.phase ≠ .inEngine)
      ∧ ((s.lane r.lane).state = .running → (t.lane r.lane).state = .running ∨ s.device = .stopping)
  device : t.device = s.device ∨ t.frozen = true ∨ (s.device = .loading ∧ t.device = .stopped)
    ∨ (t.device = .stopped ∧ ∀ l, (t.lane l).state = .disabled)
  reads : ReadsWithin s t

theorem LanesFall.heldLaw {s t : State} (h : LanesFall s t) (hs : HeldLaw s) : HeldLaw t where
  held_limit l := (h.held l).trans (hs.held_limit l)
  reading_below r hr := by
    obtain ⟨q, hq, e⟩ := h.reads r hr
    have := h.held r.lane
    have := hs.reading_below q hq
    rw [e] at this
    omega
  paused_empty l hl := by
    rcases h.paused l hl with hp | h0
    · have := h.held l
      have := hs.paused_empty l hp
      omega
    · exact h0

theorem LanesFall.laneLaw {s t : State} (h : LanesFall s t) (hs : LaneLaw s) : LaneLaw t where
  stopped_disabled ht l := by
    rcases h.device with e | e | ⟨e, _⟩ | ⟨_, e⟩
    · exact h.disabled l (hs.stopped_disabled (e ▸ ht) l)
    · rcases ht with ht | ht <;> simp [State.frozen, ht] at e
    · exact h.disabled l (hs.stopped_disabled (.inr e) l)
    · exact e l
  stopping_none_running ht l hl := by
    rcases h.device with e | e | ⟨_, e⟩ | ⟨e, _⟩
    · exact hs.stopping_none_running (e ▸ ht) l (h.running l hl)
    · simp [State.frozen, ht] at e
    · rw [ht] at e; cases e
    · rw [ht] at e; cases e
  waiting_running r hr hp := by
    obtain ⟨⟨q, hq, hl, hqp⟩, hrun⟩ := h.waiting r hr hp
    have hq := hs.waiting_running q hq hqp
    rw [hl] at hq
    exact (hrun hq).resolve_right fun hd => hs.stopping_none_running hd _ hq

theorem LanesFall.keeps {s t : State} (h : LanesFall s t) : KeepsLaneLaws s t :=
  ⟨h.heldLaw, h.laneLaw⟩

/-- A waiting request that is in the FIFO of `s` too. -/
theorem waits_of_mem {s t : State} {r : ServiceRequest} (hr : r ∈ s.fifo) (hp : r.phase ≠ .inEngine)
    (h : (s.lane r.lane).state = .running → (t.lane r.lane).state = .running ∨ s.device = .stopping) :
    (∃ q ∈ s.fifo, q.lane = r.lane ∧ q.phase ≠ .inEngine)
      ∧ ((s.lane r.lane).state = .running →
        (t.lane r.lane).state = .running ∨ s.device = .stopping) :=
  ⟨⟨r, hr, rfl, hp⟩, h⟩

/-- Lanes whose states stand and whose held counts do not rise, with waiting requests of lanes that had
one before. -/
theorem LanesFall.of_states {s t : State} (hst : ∀ l, (t.lane l).state = (s.lane l).state)
    (hh : ∀ l, (t.lane l).held ≤ (s.lane l).held)
    (hf : ∀ r ∈ t.fifo, r.phase ≠ .inEngine → ∃ q ∈ s.fifo, q.lane = r.lane ∧ q.phase ≠ .inEngine)
    (hd : t.device = s.device ∨ t.frozen = true ∨ (s.device = .loading ∧ t.device = .stopped))
    (hr : ReadsWithin s t) : LanesFall s t where
  held := hh
  paused l hl := .inl (hst l ▸ hl)
  disabled l hl := by rw [hst, hl]
  running l hl := by rw [← hst, hl]
  waiting r hr hp := ⟨hf r hr hp, fun h => .inl (by rw [hst, h])⟩
  device := by tauto
  reads := hr

theorem Quiet.fall {s t : State} (h : Quiet s t) : LanesFall s t :=
  .of_states (fun l => by rw [h.lane]) (fun l => by rw [h.lane]) 
    (fun r hr hp => ⟨r, h.fifo ▸ hr, rfl, hp⟩) h.device h.reads

theorem Quiet.keeps {s t : State} (h : Quiet s t) : KeepsLaneLaws s t := h.fall.keeps

/-- One lane rewritten with its state kept and its held count not raised. -/
theorem LanesFall.of_set {s t : State} {l : LaneNo} {x : Lane} (hl : t.lanes = s.lanes.set l x)
    (hst : x.state = (s.lane l).state) (hh : x.held ≤ (s.lane l).held) (hf : t.fifo = s.fifo)
    (hd : t.device = s.device) (hr : t.readChannel = s.readChannel) : LanesFall s t := by
  refine .of_states (fun m => ?_) (fun m => ?_) (fun r h hp => ⟨r, hf ▸ h, rfl, hp⟩)
    (.inl hd) (.of_eq hr) <;>
  · rw [State.lane_of_set hl]
    split_ifs with e
    · subst e; assumption
    · rfl

/-! ### Settling, releasing, return entries -/

/-- Entry to STOPPED ends STOPPING with every lane DISABLED. -/
theorem enterStopped_fall {s : State} (hd : s.device = .stopping) : LanesFall s (enterStopped s) where
  held l := by rw [enterStopped_lane]
  paused l hl := by rw [enterStopped_lane] at hl; cases hl
  disabled l _ := by rw [enterStopped_lane]
  running l hl := by rw [enterStopped_lane] at hl; cases hl
  waiting r hr hp := waits_of_mem hr hp fun _ => .inr hd
  device := .inr (.inr (.inr ⟨rfl, fun l => by rw [enterStopped_lane]⟩))
  reads := .of_eq rfl

/-- A DRAINING lane that holds no cell is PAUSED. -/
theorem pause_fall {s : State} {l : LaneNo} (hst : (s.lane l).state = .draining)
    (h0 : (s.lane l).held = 0) : LanesFall s (s.setLane l { s.lane l with state := .paused }) where
  held m := by rw [State.lane_setLane]; split_ifs with e <;> simp [e]
  paused m hm := by
    rw [State.lane_setLane] at hm ⊢
    split_ifs at hm ⊢
    · exact .inr h0
    · exact .inl hm
  disabled m hm := by
    rw [State.lane_setLane]
    split_ifs with e
    · subst e; rw [hst] at hm; cases hm
    · exact hm
  running m hm := by
    rw [State.lane_setLane] at hm
    split_ifs at hm
    exact hm
  waiting r hr hp := waits_of_mem hr hp fun h => .inl (by
    rw [State.lane_setLane]
    split_ifs with e
    · rw [e, hst] at h; cases h
    · exact h)
  device := .inl rfl
  reads := .of_eq rfl

theorem settle_keeps (l : LaneNo) (s : State) : KeepsLaneLaws s (settle l s) := by
  rcases settle_cases l s with h | ⟨_, hst, h0, h⟩ | ⟨hd, _, h⟩ | ⟨hd, hst, h0, _, h⟩ <;> rw [h]
  · exact .refl s
  · exact (pause_fall hst h0).keeps
  · exact (enterStopped_fall hd).keeps
  · exact (pause_fall hst h0).keeps.trans (LanesFall.keeps (enterStopped_fall hd))

theorem releaseCells_keeps (l : LaneNo) (n : Nat) (s : State) : KeepsLaneLaws s (releaseCells l n s) := by
  unfold releaseCells
  refine KeepsLaneLaws.trans (LanesFall.keeps ?_) (settle_keeps l _)
  exact .of_set (l := l) rfl rfl (Nat.sub_le _ _) rfl rfl rfl

theorem makeEntry_keeps (e : ReturnEntry) (s : State) : KeepsLaneLaws s (makeEntry e s) := by
  rcases makeEntry_cases e s with ⟨_, h⟩ | ⟨_, h⟩ <;> rw [h]
  · refine Quiet.keeps ?_
    exact .of_fields rfl rfl rfl rfl rfl
  · exact releaseCells_keeps _ _ s

/-! ### Halts and drains -/

/-- A request that stays in the FIFO when lane `l`'s unstarted ones leave it, and still waits, is of
another lane. -/
theorem mem_filter_unstarted {l : LaneNo} {fifo : List ServiceRequest} {r : ServiceRequest}
    (hr : r ∈ fifo.filter fun r => !unstarted l r) (hp : r.phase ≠ .inEngine) :
    r ∈ fifo ∧ r.lane ≠ l := by
  simp only [List.mem_filter, unstarted, Bool.not_eq_true', Bool.and_eq_false_iff, beq_eq_false_iff_ne,
    bne_eq_false_iff_eq] at hr
  exact ⟨hr.1, hr.2.resolve_right hp⟩

/-- Lane `l` leaves RUNNING or DRAINING with its unstarted service requests out of the FIFO. -/
theorem LanesFall.of_leave {s t : State} {l : LaneNo} {x : Lane} (hl : t.lanes = s.lanes.set l x)
    (hx : x.state ≠ .running ∧ x.state ≠ .disabled) (hp : x.state = .paused → x.held = 0)
    (hs : (s.lane l).state ≠ .disabled) (hh : x.held ≤ (s.lane l).held)
    (hf : t.fifo = s.fifo.filter fun r => !unstarted l r) (hd : t.device = s.device)
    (hr : t.readChannel = staleRead l s.readChannel) : LanesFall s t where
  held m := by
    rw [State.lane_of_set hl]
    split_ifs with e
    · rw [e]; exact hh
    · exact le_rfl
  paused m hm := by
    rw [State.lane_of_set hl] at hm ⊢
    split_ifs at hm ⊢
    · exact .inr (hp hm)
    · exact .inl hm
  disabled m hm := by
    rw [State.lane_of_set hl]
    split_ifs with e
    · exact absurd (e ▸ hm) hs
    · exact hm
  running m hm := by
    rw [State.lane_of_set hl] at hm
    split_ifs at hm
    · exact absurd hm hx.1
    · exact hm
  waiting r hr hp := by
    obtain ⟨hr, hne⟩ := mem_filter_unstarted (hf ▸ hr) hp
    exact waits_of_mem hr hp fun h => .inl (by rw [State.lane_of_set hl, if_neg hne, h])
  device := .inl hd
  reads := .of_stale hr

theorem haltLane_keeps {l : LaneNo} {s : State} (h : (s.lane l).state ≠ .disabled) :
    KeepsLaneLaws s (haltLane l s) := by
  unfold haltLane
  refine KeepsLaneLaws.trans (LanesFall.keeps ?_) (settle_keeps l _)
  exact .of_leave (l := l) rfl ⟨nofun, nofun⟩ nofun h (Nat.sub_le _ _) rfl rfl rfl

theorem haltIfLive_keeps (l : LaneNo) (s : State) : KeepsLaneLaws s (haltIfLive l s) := by
  rcases haltIfLive_cases l s with h | ⟨hl, h⟩ <;> rw [h]
  · exact .refl s
  · exact haltLane_keeps (by rcases hl with hl | hl <;> rw [hl] <;> decide)

theorem drainLane_fall {l : LaneNo} {s : State} (h : (s.lane l).state = .running) :
    LanesFall s (drainLane l s) := by
  refine .of_leave (l := l) rfl ?_ ?_ (by rw [h]; decide) le_rfl rfl rfl rfl
  · dsimp only; split_ifs <;> decide
  · dsimp only; split_ifs with h0
    · exact fun _ => h0
    · nofun

theorem drainLanes_keeps (ls : List LaneNo) (s : State) : KeepsLaneLaws s (drainLanes ls s) := by
  induction ls generalizing s with
  | nil => exact .refl s
  | cons l ls ih =>
    rw [drainLanes]
    split_ifs with h
    · exact (drainLane_fall h).keeps.trans (ih _)
    · exact ih s

/-- After the drains of a list, none of its lanes is RUNNING, and no drain starts a lane. -/
theorem drainLanes_not_running (ls : List LaneNo) (s : State) (l : LaneNo) :
    ((drainLanes ls s).lane l).state = .running → (s.lane l).state = .running ∧ l ∉ ls := by
  induction ls generalizing s with
  | nil => simp [drainLanes]
  | cons m ls ih =>
    rw [drainLanes]
    intro h
    obtain ⟨hl, hn⟩ := ih _ h
    split_ifs at hl with hm
    · rw [drainLane_lane] at hl
      split_ifs at hl with e
      simp_all
    · exact ⟨hl, by simp only [List.mem_cons, not_or]; exact ⟨fun e => hm (e ▸ hl), hn⟩⟩

theorem mem_allLanes (l : LaneNo) : l ∈ allLanes := by revert l; decide

end Sys2Proof.Machine
end

section
namespace Sys2Proof.Machine

/-! ## What a command answers -/

/-- Whatever next state the outcome gives has the property. -/
def Answers (P : State → Prop) (o : Host.Outcome State Fault Refusal) : Prop :=
  ∀ t, o = .next t → P t

theorem Answers.next {P : State → Prop} {t : State} (h : P t) : Answers P (.next t) := by
  rintro _ ⟨⟩; exact h

theorem Answers.mono {P Q : State → Prop} {o : Host.Outcome State Fault Refusal} (h : Answers P o)
    (g : ∀ t, P t → Q t) : Answers Q o := fun t ht => g t (h t ht)

theorem Answers.keeps {s : State} {o : Host.Outcome State Fault Refusal} (h : Answers (Quiet s) o) :
    Answers (KeepsLaneLaws s) o := h.mono fun _ => Quiet.keeps

/-! ## Commands that leave the traffic -/

theorem execTamperAssert_quiet (s : State) : Answers (Quiet s) (execTamperAssert s) := by
  refine .next ?_
  split_ifs
  · exact .refl s
  · exact .after (tamperAssertion_quiet _) (.of_fields rfl rfl rfl rfl rfl)

theorem startRequest_quiet (s : State) : Quiet s (startRequest s) := by
  unfold startRequest
  split
  · split_ifs
    · exact .refl s
    all_goals exact .of_fields rfl rfl rfl rfl rfl
  all_goals exact .of_fields rfl rfl rfl rfl rfl

theorem execStationBaseWrite_quiet (half : StationHalf) (v : Word) (s : State) :
    Quiet s (stationBaseWrite half v s) := by
  unfold stationBaseWrite
  split_ifs
  · exact .refl s
  · cases half <;> exact .of_fields rfl rfl rfl rfl rfl

theorem execStationRecordReadIssue_quiet (s : State) :
    Answers (Quiet s) (execStationRecordReadIssue s) := by
  unfold execStationRecordReadIssue
  split
  · split_ifs
    · exact .next (.refl s)
    · exact .next ⟨rfl, rfl, rfl, .inl rfl, nofun⟩
  · exact .next (.refl s)

theorem endDiscarded_quiet (r : ReadEnd) (l : Option LaneNo) (s : State) :
    Quiet s (endDiscarded r l s) := by
  unfold endDiscarded
  split
  · exact raiseReport_quiet _ s
  · exact .refl s

/-- The channel freed at the end of a read. -/
theorem freeRead_quiet (s : State) : Quiet s { s with readChannel := .free } :=
  ⟨rfl, rfl, rfl, .inl rfl, nofun⟩

/-- A station record read ends with its record applied, or moves no traffic. -/
theorem execStationRecordReadEnd_cases (r : ReadEnd) (s : State) :
    Answers (fun t => Quiet s t ∨ s.readChannel = .station false
      ∧ ∃ b, t = applyStation b { s with readChannel := .free, startReq := none })
      (execStationRecordReadEnd r s) := by
  unfold execStationRecordReadEnd
  split
  · next a ha =>
    refine .next ?_
    cases a with
    | true => exact .inl ((freeRead_quiet s).trans (endDiscarded_quiet r none _))
    | false =>
      rw [if_neg (by decide)]
      unfold endStart
      split
      · exact .inl (.after (raiseReport_quiet _ _) ⟨rfl, rfl, rfl, .inl rfl, nofun⟩)
      · split_ifs
        · exact .inr ⟨ha, _, rfl⟩
        · exact .inl ⟨rfl, rfl, rfl, .inl rfl, nofun⟩
  · exact .next (.inl (.refl s))
  · exact .next (.inl (.refl s))

/-! ### The write channel -/

theorem issueNotice_quiet (n : Notice) (s : State) : Quiet s (issueNotice n s) := by
  unfold issueNotice
  split <;> exact .of_fields rfl rfl rfl rfl rfl

theorem issueCellWrite_quiet (e : ReturnEntry) (c : TakenCell) (s : State) :
    Quiet s (issueCellWrite e c s) := by
  unfold issueCellWrite
  split <;> exact .of_fields rfl rfl rfl rfl rfl

theorem execWriteChannelIssue_quiet (s : State) : Answers (Quiet s) (execWriteChannelIssue s) := by
  unfold execWriteChannelIssue
  split
  · exact .next (.refl s)
  · split
    · exact .next (.after (issueNotice_quiet _ _) (.of_fields rfl rfl rfl rfl rfl))
    · split
      · split
        · split
          · exact .next (issueCellWrite_quiet _ _ s)
          · exact .next (.refl s)
        · exact .next (.refl s)
      · exact .next (.refl s)

theorem endNoticeWrite_quiet (w : BusWrite) (r : BusEnd) (s : State) :
    Quiet s (endNoticeWrite w r s) := by
  unfold endNoticeWrite
  split
  · exact .of_fields rfl rfl rfl rfl rfl
  · exact .after (raiseReport_quiet _ _) (.of_fields rfl rfl rfl rfl rfl)

theorem execNoticeWriteEnd_quiet (r : BusEnd) (s : State) :
    Answers (Quiet s) (execNoticeWriteEnd r s) := by
  unfold execNoticeWriteEnd
  split
  · split_ifs
    · exact .next (endNoticeWrite_quiet _ r s)
    · exact .next (.refl s)
  · exact .next (.refl s)

theorem execErrorNoticeWriteEnd_quiet (r : BusEnd) (s : State) :
    Answers (Quiet s) (execErrorNoticeWriteEnd r s) := by
  unfold execErrorNoticeWriteEnd
  split
  · split_ifs
    · exact .next (endNoticeWrite_quiet _ r s)
    · exact .next (.refl s)
  · exact .next (.refl s)

theorem markFirstDone_quiet (s : State) : Quiet s (markFirstDone s) :=
  .of_fields rfl rfl rfl rfl rfl

theorem landWrite_quiet (w : BusWrite) (s : State) : Quiet s (landWrite w s) :=
  .of_fields rfl rfl rfl rfl rfl

/-! ### COMMIT in flight -/

theorem execCommitEraseEnd_quiet (x : NvmEnd) (s : State) :
    Answers (Quiet s) (execCommitEraseEnd x s) := by
  unfold execCommitEraseEnd
  split
  · split_ifs
    · cases x <;> exact .next (.of_fields rfl rfl rfl rfl rfl)
    · exact .next (.refl s)
  · exact .next (.refl s)

theorem clearMark_quiet (c : CommitOp) (s : State) : Quiet s (clearMark c s) := by
  unfold clearMark
  split_ifs
  · exact .refl s
  · split <;> exact .of_fields rfl rfl rfl rfl rfl

theorem spoilArray_quiet (x : NvmEnd) (c : CommitOp) (s : State) : Quiet s (spoilArray x c s) := by
  cases x <;> exact .of_fields rfl rfl rfl rfl rfl

/-! ### The load -/

theorem loadNext_quiet (step : LoadStep) (t : Nat) (s : State) : Quiet s (loadNext step t s) :=
  .of_fields rfl rfl rfl rfl rfl

theorem loadEnds_quiet {s : State} (h : s.device = .loading) : Quiet s (loadEnds s) :=
  ⟨rfl, rfl, rfl, .inr (.inr ⟨h, rfl⟩), .of_eq rfl⟩

theorem loadNextSlice_quiet (last : Option SliceNo) {s : State} (h : s.device = .loading) :
    Quiet s (loadNextSlice last s) := by
  unfold loadNextSlice
  split
  · exact loadNext_quiet _ _ s
  · exact loadEnds_quiet h

theorem loadNextKey_quiet (n : SliceNo) (last : Option SlotNo) {s : State} (h : s.device = .loading) :
    Quiet s (loadNextKey n last s) := by
  unfold loadNextKey
  split
  · exact loadNext_quiet _ _ s
  · exact loadNextSlice_quiet _ h

/-- A step of the load that is in progress ends with GT run on to its end. -/
theorem loadAt_eq_some {s t : State} {st : LoadStep} (h : s.loadAt st = some t) :
    s.load.isSome = true ∧ ∃ e, t = s.runTo e := by
  unfold State.loadAt at h
  split at h
  · next x hx =>
    split_ifs at h
    exact ⟨by rw [hx]; rfl, x.stepEnd, (Option.some.inj h).symm⟩
  · cases h

theorem execOptionRecordReadEnd_quiet (s : State) : Answers (Quiet s) (execOptionRecordReadEnd s) := by
  unfold execOptionRecordReadEnd
  split
  · exact .next (.refl s)
  · next t ht =>
    obtain ⟨_, e, rfl⟩ := loadAt_eq_some ht
    refine .next ?_
    split_ifs
    · exact ⟨rfl, rfl, rfl, .inr (.inl rfl), .of_eq rfl⟩
    · exact .of_fields rfl rfl rfl rfl rfl

theorem execStartCounterReadEnd_quiet (s : State) :
    Answers (Quiet s) (execStartCounterReadEnd s) := by
  unfold execStartCounterReadEnd
  split
  · exact .next (.refl s)
  · next t ht =>
    obtain ⟨_, e, rfl⟩ := loadAt_eq_some ht
    dsimp only
    split <;> exact .next (.of_fields rfl rfl rfl rfl rfl)

theorem afterStartCount_quiet (s : State) : Quiet s (afterStartCount s) := by
  unfold afterStartCount
  split_ifs
  · exact loadNext_quiet _ _ s
  · exact .refl s

theorem execStartCountProgramEnd_quiet (x : NvmEnd) (s : State) :
    Answers (Quiet s) (execStartCountProgramEnd x s) := by
  unfold execStartCountProgramEnd
  split
  · cases x with
    | success => exact .next (.after (afterStartCount_quiet _) (.of_fields rfl rfl rfl rfl rfl))
    | failure =>
      refine .next (.after (afterStartCount_quiet _) ?_)
      exact .after (raiseReport_quiet _ _) (.of_fields rfl rfl rfl rfl rfl)
  · exact .next (.refl s)

theorem execDirectoryImageReadEnd_quiet {s : State} (hc : ControlLaw s) :
    Answers (Quiet s) (execDirectoryImageReadEnd s) := by
  unfold execDirectoryImageReadEnd
  split
  · exact .next (.refl s)
  · next t ht =>
    obtain ⟨hl, e, rfl⟩ := loadAt_eq_some ht
    have hd := hc.load_in_loading hl
    dsimp only
    split <;> exact .next (.after (loadNextSlice_quiet _ hd) (.of_fields rfl rfl rfl rfl rfl))

theorem takeSlice_quiet (n : SliceNo) {s : State} (h : s.device = .loading) :
    Quiet s (takeSlice n s) := by
  unfold takeSlice
  split_ifs
  · exact .after (loadNextKey_quiet n none (s := loadSlice n _ s) h) (.of_fields rfl rfl rfl rfl rfl)
  · exact .after (loadNextSlice_quiet _ (s := blankSlice n s) h) (.of_fields rfl rfl rfl rfl rfl)

theorem execSliceImageReadEnd_quiet {s : State} (hc : ControlLaw s) :
    Answers (Quiet s) (execSliceImageReadEnd s) := by
  unfold execSliceImageReadEnd
  split
  · next x hx =>
    have hd := hc.load_in_loading (by rw [hx]; rfl)
    split
    · exact .next (.after (takeSlice_quiet _ (s := s.runTo _) hd) (.of_fields rfl rfl rfl rfl rfl))
    all_goals exact .next (.refl s)
  · exact .next (.refl s)

/-- A key that fails its check in a load: its slot is FAULTY and the load stays in LOADING. -/
theorem kcvMismatch_quiet (n : SliceNo) (k : SlotNo) {s : State} (h : s.device = .loading) :
    Quiet s (kcvMismatch n k s) ∧ (kcvMismatch n k s).device = .loading := by
  refine ⟨.after (raiseReport_quiet _ _) (.of_fields rfl rfl rfl rfl rfl), ?_⟩
  have hh : (s.setSlot n k { s.slot n k with state := .faulty, key := none }).haltable = false := by
    simp [State.haltable, h]
  exact (raiseReport_of_not_haltable hh).1.trans h

theorem checkKcv_quiet (n : SliceNo) (k : SlotNo) {s : State} (h : s.device = .loading) :
    Quiet s (checkKcv n k s) := by
  unfold checkKcv
  split_ifs
  · exact loadNextKey_quiet n _ h
  · obtain ⟨hq, hd⟩ := kcvMismatch_quiet n k h
    exact hq.trans (loadNextKey_quiet n _ hd)

theorem execKcvCheckEnd_quiet {s : State} (hc : ControlLaw s) :
    Answers (Quiet s) (execKcvCheckEnd s) := by
  unfold execKcvCheckEnd
  split
  · next x hx =>
    have hd := hc.load_in_loading (by rw [hx]; rfl)
    split
    · exact .next (.after (checkKcv_quiet _ _ (s := s.runTo _) hd) (.of_fields rfl rfl rfl rfl rfl))
    all_goals exact .next (.refl s)
  · exact .next (.refl s)

/-! ### The zeroize -/

theorem beginZeroizeErase_quiet (sector : Nat) (f : Bool) (g : Word) (s : State) :
    Quiet s (beginZeroizeErase sector f g s) := .of_fields rfl rfl rfl rfl rfl

theorem zeroizeEnds_quiet (s : State) : Quiet s (zeroizeEnds s) :=
  ⟨rfl, rfl, rfl, .inr (.inl rfl), .of_eq rfl⟩

theorem afterZeroizeErase_quiet (sector : Nat) (f : Bool) (g : Word) (s : State) :
    Quiet s (afterZeroizeErase sector f g s) := by
  unfold afterZeroizeErase
  split_ifs
  · exact beginZeroizeErase_quiet _ _ _ s
  · exact .of_fields rfl rfl rfl rfl rfl
  · exact zeroizeEnds_quiet s

theorem execZeroizeMarkProgramEnd_quiet (x : NvmEnd) (s : State) :
    Answers (Quiet s) (execZeroizeMarkProgramEnd x s) := by
  unfold execZeroizeMarkProgramEnd
  split
  · cases x with
    | success => exact .next (.of_fields rfl rfl rfl rfl rfl)
    | failure =>
      refine .next (.after (beginZeroizeErase_quiet _ _ _ _) ?_)
      exact .after (raiseReport_quiet _ _) (.of_fields rfl rfl rfl rfl rfl)
  · exact .next (.refl s)

theorem execZeroizeSectorEraseEnd_quiet (x : NvmEnd) (s : State) :
    Answers (Quiet s) (execZeroizeSectorEraseEnd x s) := by
  unfold execZeroizeSectorEraseEnd
  split
  · cases x with
    | success => exact .next (.after (afterZeroizeErase_quiet _ _ _ _) (.of_fields rfl rfl rfl rfl rfl))
    | failure =>
      refine .next (.after (afterZeroizeErase_quiet _ _ _ _) ?_)
      exact .after (raiseReport_quiet _ _) (.of_fields rfl rfl rfl rfl rfl)
  · exact .next (.refl s)

theorem execZeroizeFinalMarkEnd_quiet (x : NvmEnd) (s : State) :
    Answers (Quiet s) (execZeroizeFinalMarkEnd x s) := by
  unfold execZeroizeFinalMarkEnd
  split
  · cases x with
    | success => exact .next (.after (zeroizeEnds_quiet _) (.of_fields rfl rfl rfl rfl rfl))
    | failure =>
      refine .next (.after (zeroizeEnds_quiet _) ?_)
      exact .after (raiseReport_quiet _ _) (.of_fields rfl rfl rfl rfl rfl)
  · exact .next (.refl s)

end Sys2Proof.Machine
end

section
namespace Sys2Proof.Machine

/-! ## Commands that move lanes -/

/-- `KeepsLaneLaws.trans` with the later part first. -/
theorem KeepsLaneLaws.after {s t u : State} (g : KeepsLaneLaws t u) (h : KeepsLaneLaws s t) :
    KeepsLaneLaws s u := h.trans g

/-- Every lane as a reset leaves it, and no service request: both laws hold. -/
theorem laneLaws_of_initial {t : State} (hl : ∀ l, t.lane l = Lane.initial) (hf : t.fifo = []) :
    HeldLaw t ∧ LaneLaw t := by
  refine ⟨⟨?_, ?_, ?_⟩, ⟨?_, ?_, ?_⟩⟩ <;> simp [hl, hf, Lane.initial]

theorem lane_replicate {s : State} {x : Lane} (h : s.lanes = Vector.replicate 16 x) (l : LaneNo) :
    s.lane l = x := by
  simp [State.lane, h]

theorem reset_laneLaws : HeldLaw State.reset ∧ LaneLaw State.reset :=
  laneLaws_of_initial (lane_replicate rfl) rfl

theorem execColdReset_keeps (s : State) : Answers (KeepsLaneLaws s) (execColdReset s) := by
  have h : KeepsLaneLaws s (coldResetState s) := by
    obtain ⟨h1, h2⟩ := laneLaws_of_initial (t := coldResetState s) (lane_replicate rfl) rfl
    exact ⟨fun _ => h1, fun _ => h2⟩
  refine .next ?_
  split_ifs
  · exact h.trans (tamperAssertion_quiet _).keeps
  · exact h

/-! ### Register writes -/

theorem softResetRequest_keeps (s : State) : KeepsLaneLaws s (softResetRequest s) := by
  unfold softResetRequest
  split_ifs
  · obtain ⟨h1, h2⟩ := laneLaws_of_initial (t := softResetState s) (lane_replicate rfl) rfl
    exact ⟨fun _ => h1, fun _ => h2⟩
  · exact .refl s

theorem endStopping_keeps (s : State) : KeepsLaneLaws s (endStopping s) := by
  unfold endStopping
  split_ifs with h
  · exact (enterStopped_fall h.1).keeps
  · exact .refl s

/-- With no lane RUNNING, the device may enter STOPPING. -/
theorem enterStopping_keeps {s : State} (h : ∀ l, (s.lane l).state ≠ .running) :
    KeepsLaneLaws s { s with device := .stopping } :=
  ⟨fun hs => ⟨hs.held_limit, hs.reading_below, hs.paused_empty⟩,
    fun hs => ⟨nofun, fun _ => h, hs.waiting_running⟩⟩

theorem stopRequest_keeps (s : State) : KeepsLaneLaws s (stopRequest s) := by
  unfold stopRequest
  split_ifs
  · refine (drainLanes_keeps allLanes s).trans (.trans (enterStopping_keeps ?_) (endStopping_keeps _))
    exact fun l h => (drainLanes_not_running allLanes s l h).2 (mem_allLanes l)
  · exact .refl s

theorem controlWrite_keeps (w : Word) (s : State) : KeepsLaneLaws s (controlWrite w s) := by
  have hlock : Quiet s (if w.getLsbD 3 then { s with lock := true } else s) := by
    split_ifs
    · exact .of_fields rfl rfl rfl rfl rfl
    · exact .refl s
  unfold controlWrite
  split
  · exact softResetRequest_keeps s
  · dsimp only
    generalize (if w.getLsbD 3 = true then { s with lock := true } else s) = u at hlock ⊢
    refine hlock.keeps.trans ?_
    split
    · exact (startRequest_quiet _).keeps
    · split
      · exact stopRequest_keeps _
      · exact .refl _

theorem postWrite_keeps (v : Word) (s : State) : KeepsLaneLaws s (postWrite v s) := by
  unfold postWrite
  split_ifs with h h'
  · exact LanesFall.keeps (.of_set (l := ⟨v.toNat, h⟩) rfl rfl le_rfl rfl rfl rfl)
  · exact .refl s
  · exact .refl s

theorem registerWrite_keeps (offset width : Nat) (v : Word) (s : State) :
    KeepsLaneLaws s (registerWrite offset width v s) := by
  unfold registerWrite
  split_ifs
  · split
    · exact controlWrite_keeps v s
    · exact (execStationBaseWrite_quiet .lo v s).keeps
    · exact (execStationBaseWrite_quiet .hi v s).keeps
    · exact postWrite_keeps v s
    · exact Quiet.keeps (.of_fields rfl rfl rfl rfl rfl)
    · exact Quiet.keeps (.of_fields rfl rfl rfl rfl rfl)
    · exact .refl s
  · exact .refl s

/-! ### START -/

theorem startLane_held (b : Bytes) (limit : Nat) (l : LaneNo) : (startLane b limit l).held = 0 := by
  unfold startLane; split_ifs <;> rfl

theorem startLane_not_paused (b : Bytes) (limit : Nat) (l : LaneNo) :
    (startLane b limit l).state ≠ .paused := by
  unfold startLane; split_ifs <;> nofun

theorem applyStation_lane (b : Bytes) (s : State) (l : LaneNo) :
    (applyStation b s).lane l = startLane b s.laneLimit l := by
  show (Vector.ofFn _)[l] = _
  simp

/-- A START that ends OK leaves STOPPED, where no service request waits for a lane. -/
theorem applyStation_keeps {s : State} (b : Bytes) (h : s.device = .stopped) :
    KeepsLaneLaws s (applyStation b { s with readChannel := .free, startReq := none }) := by
  refine ⟨fun _ => ⟨fun l => ?_, nofun, fun l hl => ?_⟩, fun hs => ⟨nofun, nofun, fun r hr hp => ?_⟩⟩
  · rw [applyStation_lane, startLane_held]; omega
  · rw [applyStation_lane] at hl; exact absurd hl (startLane_not_paused _ _ _)
  · have hrun := hs.waiting_running r hr hp
    rw [hs.stopped_disabled (.inl h)] at hrun
    cases hrun

theorem execStationRecordReadEnd_keeps (r : ReadEnd) {s : State} (hc : ControlLaw s) :
    Answers (KeepsLaneLaws s) (execStationRecordReadEnd r s) := by
  refine (execStationRecordReadEnd_cases r s).mono ?_
  rintro t (h | ⟨hr, b, rfl⟩)
  · exact h.keeps
  · exact applyStation_keeps b (hc.start_in_stopped (hc.live_read_has_start hr))

/-! ### Cell reads and takes -/

theorem execCellReadIssue_keeps (s : State) : Answers (KeepsLaneLaws s) (execCellReadIssue s) := by
  unfold execCellReadIssue
  split
  · next l _ _ hl =>
    refine .next ⟨fun hs => ⟨hs.held_limit, ?_, hs.paused_empty⟩,
      fun hs => ⟨hs.stopped_disabled, hs.stopping_none_running, hs.waiting_running⟩⟩
    rintro r hr
    cases hr
    have hw := List.find?_some hl
    simp only [Lane.wantsRead, Bool.and_eq_true, decide_eq_true_eq] at hw
    exact hw.2
  · exact .next (.refl s)

/-- The lane of a read in flight holds fewer than 8 cells, so one more may be taken. -/
theorem takeBasics_keeps {x : CellRead} {s : State} (hx : s.readChannel = .cell x)
    (hrun : (s.lane x.lane).state = .running) :
    KeepsLaneLaws s (takeBasics x.lane { s with readChannel := .free }) := by
  have hl : ∀ m, (takeBasics x.lane { s with readChannel := .free }).lane m
      = if m = x.lane then takenLane (s.lane x.lane) else s.lane m :=
    State.lane_of_set (s := s) rfl
  have hst : ∀ m, ((takeBasics x.lane { s with readChannel := .free }).lane m).state
      = (s.lane m).state := by
    intro m; rw [hl]; split_ifs with e
    · rw [e]; rfl
    · rfl
  refine ⟨fun hs => ⟨fun m => ?_, nofun, fun m hm => ?_⟩,
    fun hs => ⟨fun hd m => ?_, fun hd m => ?_, fun r hr hp => ?_⟩⟩
  · rw [hl]; split_ifs
    · exact hs.reading_below x hx
    · exact hs.held_limit m
  · rw [hst] at hm
    rw [hl, if_neg (by rintro rfl; rw [hrun] at hm; cases hm)]
    exact hs.paused_empty m hm
  · rw [hst]; exact hs.stopped_disabled hd m
  · rw [hst]; exact hs.stopping_none_running hd m
  · rw [hst]; exact hs.waiting_running r hr hp

/-- A lane's pending extensions rewritten. -/
theorem setPending_keeps (l : LaneNo) (cs : List TakenCell) (s : State) :
    KeepsLaneLaws s (s.setLane l { s.lane l with pendingExt := cs }) :=
  LanesFall.keeps (.of_set (l := l) rfl rfl le_rfl rfl rfl rfl)

theorem takeToQueue_keeps (l : LaneNo) (e : ReturnEntry) (s : State) :
    KeepsLaneLaws s (takeToQueue l e s) := .after (makeEntry_keeps e _) (setPending_keeps l [] s)

theorem takeExt_keeps (l : LaneNo) (c : TakenCell) (s : State) : KeepsLaneLaws s (takeExt l c s) := by
  unfold takeExt
  split_ifs
  · exact setPending_keeps l _ s
  · exact takeToQueue_keeps l _ s

theorem queueRequest_keeps (r : PassRequest) (s : State) : KeepsLaneLaws s (queueRequest r s) := by
  unfold queueRequest
  split_ifs
  · exact makeEntry_keeps _ s
  · exact LanesFall.keeps (.of_set (l := r.lane) rfl rfl le_rfl rfl rfl rfl)

theorem takePass_keeps (l : LaneNo) (c : TakenCell) (take : Word) (s : State) :
    KeepsLaneLaws s (takePass l c take s) := by
  unfold takePass
  dsimp only
  split_ifs
  · exact takeToQueue_keeps l _ s
  · exact .after (queueRequest_keeps _ _) (setPending_keeps l [] s)

/-- A service request joins the FIFO from a RUNNING lane. -/
theorem enqueue_keeps {s : State} {q : ServiceRequest} (h : (s.lane q.lane).state = .running) :
    KeepsLaneLaws s { s with fifo := s.fifo ++ [q] } := by
  refine ⟨fun hs => ⟨hs.held_limit, hs.reading_below, hs.paused_empty⟩,
    fun hs => ⟨hs.stopped_disabled, hs.stopping_none_running, fun r hr hp => ?_⟩⟩
  rcases List.mem_append.mp hr with hr | hr
  · exact hs.waiting_running r hr hp
  · rw [List.mem_singleton.mp hr]; exact h

theorem takeService_keeps (l : LaneNo) (c : TakenCell) (kind : ServiceKind) (take : Word) {s : State}
    (h : (s.lane l).state = .running) : KeepsLaneLaws s (takeService l c kind take s) := by
  unfold takeService
  split_ifs
  · exact takeToQueue_keeps l _ s
  · exact enqueue_keeps h
  · exact takeToQueue_keeps l _ s

theorem takeCell_keeps {x : CellRead} {s : State} (c : TakenCell) (hx : s.readChannel = .cell x)
    (hrun : (s.lane x.lane).state = .running) :
    KeepsLaneLaws s (takeCell x.lane c { s with readChannel := .free }) := by
  have hb := takeBasics_keeps hx hrun
  have hr : ((takeBasics x.lane { s with readChannel := .free }).lane x.lane).state = .running := by
    rw [State.lane_of_set (s := s) (l := x.lane) rfl, if_pos rfl]; exact hrun
  unfold takeCell
  split_ifs
  · exact hb.trans (takePass_keeps _ _ _ _)
  · exact hb.trans (takeExt_keeps _ _ _)
  · split
    · exact hb.trans (takeService_keeps _ _ _ _ hr)
    · exact hb.trans (takeToQueue_keeps _ _ _)

theorem scanCell_keeps {x : CellRead} {s : State} (pos : Nat) (b : Bytes)
    (hx : s.readChannel = .cell x) (hrun : (s.lane x.lane).state = .running) :
    KeepsLaneLaws s (scanCell x.lane pos b { s with readChannel := .free }) := by
  unfold scanCell
  split_ifs
  · exact takeCell_keeps _ hx hrun
  · refine .after (LanesFall.keeps ?_) (freeRead_quiet s).keeps
    exact .of_set (l := x.lane) rfl rfl le_rfl rfl rfl rfl

theorem endCellRead_keeps {x : CellRead} {s : State} (r : ReadEnd) (hx : s.readChannel = .cell x) :
    KeepsLaneLaws s (endCellRead x r { s with readChannel := .free }) := by
  have hfree := (freeRead_quiet s).keeps
  unfold endCellRead
  split_ifs with h1 h2 h3
  · exact hfree.trans (endDiscarded_quiet _ _ _).keeps
  · split
    · exact hfree
    · exact hfree.trans (.after (raiseReport_quiet _ _).keeps (haltLane_keeps (by rw [h3]; decide)))
  · split
    · exact hfree
    · exact hfree.trans (raiseReport_quiet _ _).keeps
  · have hrun : (s.lane x.lane).state = .running := by
      simp only [Bool.or_eq_true, bne_iff_ne, not_or, not_not] at h2
      exact h2.2
    split
    · exact scanCell_keeps _ _ hx hrun
    · refine hfree.trans (.after (raiseReport_quiet _ _).keeps (haltLane_keeps ?_))
      show (s.lane x.lane).state ≠ .disabled
      rw [hrun]; decide

theorem execCellReadEnd_keeps (r : ReadEnd) (s : State) :
    Answers (KeepsLaneLaws s) (execCellReadEnd r s) := by
  unfold execCellReadEnd
  split
  · next x hx => exact .next (endCellRead_keeps _ hx)
  · exact .next (.refl s)
  · exact .next (.refl s)

theorem execDeadlineExpiry_keeps (l : LaneNo) (take : Word) (s : State) :
    Answers (KeepsLaneLaws s) (execDeadlineExpiry l take s) := by
  unfold execDeadlineExpiry
  split_ifs
  · exact .next (.refl s)
  · split
    · exact .next (.refl s)
    · refine .next (.after (makeEntry_keeps _ _) (LanesFall.keeps ?_))
      exact .of_set (l := l) rfl rfl le_rfl rfl rfl rfl

/-! ### Dispatch and engines -/

theorem runRequest_keeps (e : EngineNo) (w : PassWork) (s : State) :
    KeepsLaneLaws s (runRequest e w s) := by
  have hs : Quiet s (if w.serial.isSome then spendSerial s else s) := by
    split_ifs
    · exact spendSerial_quiet s
    · exact .refl s
  unfold runRequest
  dsimp only
  split
  · exact hs.keeps.trans (makeEntry_keeps _ _)
  · exact hs.keeps.trans (Quiet.keeps (.of_fields rfl rfl rfl rfl rfl))

theorem unqueue_keeps (r : PassRequest) (s : State) : KeepsLaneLaws s (unqueue r s) :=
  LanesFall.keeps (.of_set (l := r.lane) rfl rfl le_rfl rfl rfl rfl)

theorem dispatchRequest_keeps (e : EngineNo) (r : PassRequest) (s : State) :
    KeepsLaneLaws s (dispatchRequest e r s) := by
  have hk : KeepsLaneLaws s (decideEvidence (findKey (unqueue r s) r).state r).state :=
    (unqueue_keeps r s).trans
      (.trans (findKey_quiet _ r).keeps (decideEvidence_quiet _ r).keeps)
  unfold dispatchRequest
  dsimp only
  refine .after (raiseReports_quiet _ _).keeps (hk.trans ?_)
  split
  · exact makeEntry_keeps _ _
  · exact runRequest_keeps _ _ _

/-- The FIFO's head goes to an engine. -/
theorem grantEngine_keeps (e : EngineNo) {h : ServiceRequest} {rest : List ServiceRequest} {s : State}
    (hf : s.fifo = h :: rest) : KeepsLaneLaws s (grantEngine e h rest s) := by
  refine LanesFall.keeps (.of_states (fun _ => rfl) (fun _ => le_rfl) (fun r hr hp => ?_) (.inl rfl)
    (.of_eq rfl))
  rcases List.mem_cons.mp hr with rfl | hr
  · exact absurd rfl hp
  · exact ⟨r, by rw [hf]; exact List.mem_cons_of_mem _ hr, rfl, hp⟩

theorem execDispatch_keeps (s : State) : Answers (KeepsLaneLaws s) (execDispatch s) := by
  unfold execDispatch
  split
  · split
    · exact .next (dispatchRequest_keeps _ _ s)
    · split
      · next hf =>
        split_ifs
        · exact .next (grantEngine_keeps _ hf)
        · exact .next (.refl s)
      · exact .next (.refl s)
  · exact .next (.refl s)

theorem nextStage_keeps (e : EngineNo) (w : PassWork) (s : State) :
    KeepsLaneLaws s (nextStage e w s) := by
  unfold nextStage
  split
  · exact .after (makeEntry_keeps _ _) (Quiet.keeps (.of_fields rfl rfl rfl rfl rfl))
  · exact Quiet.keeps (.of_fields rfl rfl rfl rfl rfl)

theorem execDeriveComplete_keeps (e : EngineNo) (s : State) :
    Answers (KeepsLaneLaws s) (execDeriveComplete e s) := by
  unfold execDeriveComplete
  split
  · exact .next (.refl s)
  · refine .next (.after (nextStage_keeps _ _ _) (.after (makeOffer_quiet _ _ _).keeps ?_))
    exact Quiet.keeps (.of_fields rfl rfl rfl rfl rfl)

theorem execVerifyComplete_keeps (e : EngineNo) (s : State) :
    Answers (KeepsLaneLaws s) (execVerifyComplete e s) := by
  unfold execVerifyComplete
  split
  · exact .next (.refl s)
  · exact .next (.after (nextStage_keeps _ _ _) (Quiet.keeps (.of_fields rfl rfl rfl rfl rfl)))

theorem execWriteComplete_keeps (e : EngineNo) (s : State) :
    Answers (KeepsLaneLaws s) (execWriteComplete e s) := by
  unfold execWriteComplete
  split
  · exact .next (.refl s)
  · exact .next (.after (nextStage_keeps _ _ _) (Quiet.keeps (.of_fields rfl rfl rfl rfl rfl)))

theorem execEvidenceComplete_keeps (e : EngineNo) (s : State) :
    Answers (KeepsLaneLaws s) (execEvidenceComplete e s) := by
  unfold execEvidenceComplete
  split
  · exact .next (.refl s)
  · exact .next (.after (nextStage_keeps _ _ _) (Quiet.keeps (.of_fields rfl rfl rfl rfl rfl)))

/-! ### Service requests -/

/-- The head leaves the FIFO. -/
theorem popHead_keeps (s : State) : KeepsLaneLaws s (popHead s) :=
  LanesFall.keeps (.of_states (fun _ => rfl) (fun _ => le_rfl)
    (fun r hr hp => ⟨r, List.mem_of_mem_tail hr, rfl, hp⟩) (.inl rfl) (.of_eq rfl))

/-- The head completes after a change that moves no traffic. -/
theorem finish_keeps {h : ServiceRequest} {st : Status} {fields : List ResultField} {s u : State}
    (hq : Quiet s u) : KeepsLaneLaws s (finish h st fields u) :=
  hq.keeps.trans (.after (makeEntry_keeps _ _) (popHead_keeps u))

/-- An arrived head passes its checks. -/
theorem becomeReady_keeps {h : ServiceRequest} {rest : List ServiceRequest} {s : State}
    (hf : s.fifo = h :: rest) (hp : h.phase = .waiting) : KeepsLaneLaws s (becomeReady s) := by
  have hb : (becomeReady s).fifo = { h with phase := .ready } :: rest := by simp [becomeReady, hf]
  refine LanesFall.keeps (.of_states (fun _ => rfl) (fun _ => le_rfl) (fun r hr hr' => ?_) (.inl rfl)
    (.of_eq rfl))
  rcases List.mem_cons.mp (hb ▸ hr) with rfl | hr
  · exact ⟨h, by rw [hf]; exact List.mem_cons_self, rfl, by rw [hp]; decide⟩
  · exact ⟨r, by rw [hf]; exact List.mem_cons_of_mem _ hr, rfl, hr'⟩

theorem runIssuerAdd_keeps (h : ServiceRequest) (s : State) : KeepsLaneLaws s (runIssuerAdd h s) := by
  unfold runIssuerAdd
  dsimp only
  repeat' split
  all_goals exact finish_keeps (.of_fields rfl rfl rfl rfl rfl)

theorem runIssuerRemove_keeps (h : ServiceRequest) (s : State) :
    KeepsLaneLaws s (runIssuerRemove h s) := by
  unfold runIssuerRemove
  dsimp only
  repeat' split
  all_goals exact finish_keeps (.of_fields rfl rfl rfl rfl rfl)

theorem runIssuerLock_keeps (h : ServiceRequest) (s : State) :
    KeepsLaneLaws s (runIssuerLock h s) := by
  unfold runIssuerLock
  split
  all_goals exact finish_keeps (.of_fields rfl rfl rfl rfl rfl)

theorem runKeyStage_keeps {h : ServiceRequest} {rest : List ServiceRequest} {s : State}
    (hf : s.fifo = h :: rest) (hp : h.phase = .waiting) : KeepsLaneLaws s (runKeyStage h s) := by
  unfold runKeyStage
  dsimp only
  split
  · exact finish_keeps (.refl s)
  · split_ifs
    on_goal 7 => exact becomeReady_keeps hf hp
    all_goals exact finish_keeps (.refl s)

theorem runKeyRevoke_keeps (h : ServiceRequest) (s : State) :
    KeepsLaneLaws s (runKeyRevoke h s) := by
  unfold runKeyRevoke
  dsimp only
  repeat' split
  all_goals exact finish_keeps (.of_fields rfl rfl rfl rfl rfl)

theorem eraseMatched_keeps (h : ServiceRequest) (n : SliceNo) (k : SlotNo) (s : State) :
    KeepsLaneLaws s (eraseMatched h n k s) := by
  unfold eraseMatched
  dsimp only
  split
  all_goals exact finish_keeps (.of_fields rfl rfl rfl rfl rfl)

theorem runKeyErase_keeps (h : ServiceRequest) (s : State) : KeepsLaneLaws s (runKeyErase h s) := by
  unfold runKeyErase
  dsimp only
  split
  · exact finish_keeps (.refl s)
  · split
    · exact finish_keeps (.refl s)
    · split
      · exact finish_keeps (.refl s)
      · split
        · exact eraseMatched_keeps h _ _ s
        · split
          · exact finish_keeps (.of_fields rfl rfl rfl rfl rfl)
          · exact finish_keeps (.refl s)

theorem daySweep_quiet (d : Half) (s : State) : Quiet s (markDirectoryDirty (daySweep d s)) := by
  unfold daySweep markDirectoryDirty
  exact .of_fields rfl rfl rfl rfl rfl

theorem runSetDay_keeps (h : ServiceRequest) (s : State) : KeepsLaneLaws s (runSetDay h s) := by
  unfold runSetDay
  dsimp only
  split
  · exact finish_keeps (.refl s)
  · split
    · exact finish_keeps (.refl s)
    · split
      · exact finish_keeps (.refl s)
      · exact finish_keeps (daySweep_quiet _ s)

theorem runTransportReplace_keeps {h : ServiceRequest} {rest : List ServiceRequest} {s : State}
    (hf : s.fifo = h :: rest) (hp : h.phase = .waiting) :
    KeepsLaneLaws s (runTransportReplace h s) := by
  unfold runTransportReplace
  split_ifs
  · exact finish_keeps (.refl s)
  · exact finish_keeps (.refl s)
  · exact becomeReady_keeps hf hp

theorem startCommit_keeps (h : ServiceRequest) (t : CommitTarget) (s : State) :
    KeepsLaneLaws s (startCommit h t s) := by
  unfold startCommit
  refine .after (raiseReports_quiet _ _).keeps ?_
  refine (snapshotState_quiet h.lane t s).keeps.trans ((popHead_keeps _).trans (Quiet.keeps ?_))
  exact .of_fields rfl rfl rfl rfl rfl

theorem commitTarget_keeps (h : ServiceRequest) (t : CommitTarget) (s : State) :
    KeepsLaneLaws s (commitTarget h t s) := by
  unfold commitTarget
  split_ifs
  · exact startCommit_keeps h t s
  · exact finish_keeps (.refl s)

theorem runCommit_keeps (h : ServiceRequest) (s : State) : KeepsLaneLaws s (runCommit h s) := by
  unfold runCommit
  dsimp only
  split_ifs
  · exact finish_keeps (.refl s)
  · exact finish_keeps (.refl s)
  · exact commitTarget_keeps h _ s
  · split
    · exact finish_keeps (.refl s)
    · exact commitTarget_keeps h _ s

theorem runLaneStop_keeps (h : ServiceRequest) (s : State) : KeepsLaneLaws s (runLaneStop h s) := by
  unfold runLaneStop
  split_ifs with hl
  · dsimp only
    split_ifs with hr
    · exact (popHead_keeps s).trans (.after (makeEntry_keeps _ _) (drainLane_fall (s := popHead s) hr).keeps)
    · exact finish_keeps (.refl s)
  · exact finish_keeps (.refl s)

/-- A lane is resumed while a service request waits: the device is then not STOPPING, so it may run. -/
theorem resume_keeps {h : ServiceRequest} {rest : List ServiceRequest} {s : State} (l : LaneNo)
    (cursor : Nat) (ha : s.active = true) (hf : s.fifo = h :: rest) (hp : h.phase = .waiting) :
    KeepsLaneLaws s (s.setLane l (resumedLane cursor (s.lane l))) := by
  have hl : ∀ m, (s.setLane l (resumedLane cursor (s.lane l))).lane m
      = if m = l then resumedLane cursor (s.lane l) else s.lane m := fun m => State.lane_setLane ..
  have hh : ∀ m, ((s.setLane l (resumedLane cursor (s.lane l))).lane m).held = (s.lane m).held := by
    intro m; rw [hl]; split_ifs with e
    · rw [e]; rfl
    · rfl
  refine ⟨fun hs => ⟨fun m => ?_, fun r hr => ?_, fun m hm => ?_⟩,
    fun hs => ⟨fun hd => ?_, fun hd => ?_, fun r hr hrp => ?_⟩⟩
  · rw [hh]; exact hs.held_limit m
  · rw [hh]; exact hs.reading_below r hr
  · rw [hh]
    rw [hl] at hm
    split_ifs at hm
    · cases hm
    · exact hs.paused_empty m hm
  · rcases hd with hd | hd <;>
    · rw [State.setLane_device] at hd
      simp [State.active, hd] at ha
  · have hrun := hs.waiting_running h (by rw [hf]; exact List.mem_cons_self) (by rw [hp]; decide)
    exact absurd hrun (hs.stopping_none_running hd _)
  · rw [hl]; split_ifs
    · rfl
    · exact hs.waiting_running r hr hrp

theorem runLaneResume_keeps {h : ServiceRequest} {rest : List ServiceRequest} {s : State}
    (ha : s.active = true) (hf : s.fifo = h :: rest) (hp : h.phase = .waiting) :
    KeepsLaneLaws s (runLaneResume h s) := by
  unfold runLaneResume
  dsimp only
  split_ifs
  · exact finish_keeps (.refl s)
  · exact finish_keeps (.refl s)
  · exact finish_keeps (.refl s)
  · exact (resume_keeps _ _ ha hf hp).trans (finish_keeps (.refl _))
  · exact finish_keeps (.refl s)

/-- A service command keeps the laws when the run of its arrived head does. -/
theorem onHead_keeps (kind : ServiceKind) {f : ServiceRequest → State → State} {s : State}
    (hrun : ∀ h rest, s.active = true → s.fifo = h :: rest → h.phase = .waiting →
      KeepsLaneLaws s (f h s)) : KeepsLaneLaws s (onHead kind f s) := by
  rcases onHead_cases kind f s with e | ⟨h, rest, ha, hf, _, hp, e⟩ <;> rw [e]
  · exact .refl s
  · exact hrun h rest ha hf hp

theorem completeStage_keeps (h : ServiceRequest) (key : Bytes) (good : Bool) (s : State) :
    KeepsLaneLaws s (completeStage h key good s) := by
  unfold completeStage
  repeat' split
  all_goals exact finish_keeps (.of_fields rfl rfl rfl rfl rfl)

theorem completeReplace_keeps (h : ServiceRequest) (key : Bytes) (good : Bool) (s : State) :
    KeepsLaneLaws s (completeReplace h key good s) := by
  unfold completeReplace
  split
  all_goals exact finish_keeps (.of_fields rfl rfl rfl rfl rfl)

theorem completeUnwrap_keeps (w : ServiceWork) (s : State) : KeepsLaneLaws s (completeUnwrap w s) := by
  unfold completeUnwrap
  split
  · exact .refl s
  · split_ifs
    · split
      · exact completeStage_keeps _ _ _ s
      · exact completeReplace_keeps _ _ _ s
      all_goals exact .refl s
    · exact .refl s

theorem execServiceUnwrapComplete_keeps (e : EngineNo) (s : State) :
    Answers (KeepsLaneLaws s) (execServiceUnwrapComplete e s) := by
  unfold execServiceUnwrapComplete
  split
  · exact .next (.refl s)
  · exact .next (.after (completeUnwrap_keeps _ _) (Quiet.keeps (.of_fields rfl rfl rfl rfl rfl)))

/-! ### Return writes -/

theorem failReturnWrite_keeps (w : BusWrite) (s : State) : KeepsLaneLaws s (failReturnWrite w s) := by
  unfold failReturnWrite
  refine .after (raiseReport_quiet _ _).keeps ?_
  split
  · split_ifs
    · exact haltIfLive_keeps _ s
    · exact .refl s
  · exact .refl s

theorem execReturnFirstWriteEnd_keeps (r : BusEnd) (s : State) :
    Answers (KeepsLaneLaws s) (execReturnFirstWriteEnd r s) := by
  unfold execReturnFirstWriteEnd
  split
  · split
    · split
      · refine .next ?_
        split
        · exact Quiet.keeps (.after (markFirstDone_quiet _) (landWrite_quiet _ s))
        · exact (landWrite_quiet _ s).keeps
      · exact .next (.after (failReturnWrite_keeps _ _) (Quiet.keeps (.of_fields rfl rfl rfl rfl rfl)))
    · exact .next (.refl s)
  · exact .next (.refl s)

theorem raiseLaneNotice_quiet (l : LaneNo) (s : State) : Quiet s (raiseLaneNotice l s) := by
  unfold raiseLaneNotice
  split_ifs
  all_goals exact .of_fields rfl rfl rfl rfl rfl

theorem returnCell_keeps (s : State) : KeepsLaneLaws s (returnCell s) := by
  unfold returnCell
  split
  · exact .refl s
  · next e rest _ =>
    split
    · exact .refl s
    · refine .after (releaseCells_keeps _ _ _)
        (.after (raiseLaneNotice_quiet _ _).keeps (LanesFall.keeps ?_))
      exact .of_set (l := e.lane) rfl rfl le_rfl rfl rfl rfl
    · exact .after (releaseCells_keeps _ _ _) (Quiet.keeps (.of_fields rfl rfl rfl rfl rfl))

theorem execReturnOwnWriteEnd_keeps (r : BusEnd) (s : State) :
    Answers (KeepsLaneLaws s) (execReturnOwnWriteEnd r s) := by
  unfold execReturnOwnWriteEnd
  split
  · split
    · split
      · refine .next ?_
        split
        · exact .after (returnCell_keeps _) (landWrite_quiet _ s).keeps
        · exact (landWrite_quiet _ s).keeps
      · exact .next (.after (failReturnWrite_keeps _ _) (Quiet.keeps (.of_fields rfl rfl rfl rfl rfl)))
    · exact .next (.refl s)
  · exact .next (.refl s)

/-! ### COMMIT in flight -/

theorem commitEntry_keeps (c : CommitOp) (st : Status) (fields : List ResultField) (s : State) :
    KeepsLaneLaws s (commitEntry c st fields s) := by
  unfold commitEntry
  split
  · exact .refl s
  · exact makeEntry_keeps _ s

theorem discardRecord_quiet (s : State) : Quiet s (discardRecord s) := .of_fields rfl rfl rfl rfl rfl

theorem commitSucceeds_keeps (r : NvmRecord) (c : CommitOp) (s : State) :
    KeepsLaneLaws s (commitSucceeds r c s) :=
  .after (discardRecord_quiet _).keeps (.after (commitEntry_keeps _ _ _ _) (clearMark_quiet c s).keeps)

theorem programSucceeds_keeps (r : NvmRecord) (c : CommitOp) (k : Nat) (s : State) :
    KeepsLaneLaws s (programSucceeds r c k s) := by
  unfold programSucceeds
  dsimp only
  split_ifs
  · exact .after (commitSucceeds_keeps r c _) (Quiet.keeps (.of_fields rfl rfl rfl rfl rfl))
  · exact Quiet.keeps (.of_fields rfl rfl rfl rfl rfl)

theorem execCommitWordProgramEnd_keeps (x : NvmEnd) (s : State) :
    Answers (KeepsLaneLaws s) (execCommitWordProgramEnd x s) := by
  unfold execCommitWordProgramEnd
  split
  · split
    · cases x with
      | success =>
        exact .next (.after (programSucceeds_keeps _ _ _ _) (Quiet.keeps (.of_fields rfl rfl rfl rfl rfl)))
      | failure => exact .next (Quiet.keeps (.of_fields rfl rfl rfl rfl rfl))
    · exact .next (.refl s)
    · exact .next (.refl s)
  · exact .next (.refl s)

theorem spoilEnds_keeps (r : NvmRecord) (c : CommitOp) (f : Option Nat) (s : State) :
    KeepsLaneLaws s (spoilEnds r c f s) :=
  .after (discardRecord_quiet _).keeps (.after (commitEntry_keeps _ _ _ _) (raiseReport_quiet _ s).keeps)

theorem execSpoilProgramEnd_keeps (x : NvmEnd) (s : State) :
    Answers (KeepsLaneLaws s) (execSpoilProgramEnd x s) := by
  unfold execSpoilProgramEnd
  split
  · split
    · refine .next (.after (spoilEnds_keeps _ _ _ _) (.after (spoilArray_quiet _ _ _).keeps ?_))
      exact Quiet.keeps (.of_fields rfl rfl rfl rfl rfl)
    · exact .next (.refl s)
    · exact .next (.refl s)
  · exact .next (.refl s)

/-! ## Every command -/

/-- Every command keeps the held-count law and the lane-state law. -/
theorem exec_keepsLaneLaws (c : Instr) {s : State} (hc : ControlLaw s) :
    Answers (KeepsLaneLaws s) (exec c s) := by
  cases c with
  | coldReset => exact execColdReset_keeps s
  | tamperAssert => exact (execTamperAssert_quiet s).keeps
  | tamperRelease => exact .next (Quiet.keeps (.of_fields rfl rfl rfl rfl rfl))
  | start w | stop w | softReset w | lock w => exact .next (controlWrite_keeps w s)
  | stationBaseWrite half v => exact .next (execStationBaseWrite_quiet half v s).keeps
  | post v => exact .next (postWrite_keeps v s)
  | noticePendingWrite v | errorFlagsWrite v => exact .next (Quiet.keeps (.of_fields rfl rfl rfl rfl rfl))
  | ignoredRegisterWrite o w v => exact .next (registerWrite_keeps o w v s)
  | stationRecordReadIssue => exact (execStationRecordReadIssue_quiet s).keeps
  | stationRecordReadEnd r => exact execStationRecordReadEnd_keeps r hc
  | cellReadIssue => exact execCellReadIssue_keeps s
  | cellReadEnd r => exact execCellReadEnd_keeps r s
  | deadlineExpiry l take => exact execDeadlineExpiry_keeps l take s
  | dispatch => exact execDispatch_keeps s
  | deriveComplete e => exact execDeriveComplete_keeps e s
  | verifyComplete e => exact execVerifyComplete_keeps e s
  | writeComplete e => exact execWriteComplete_keeps e s
  | evidenceComplete e => exact execEvidenceComplete_keeps e s
  | serviceUnwrapComplete e => exact execServiceUnwrapComplete_keeps e s
  | issuerAdd => exact .next (onHead_keeps _ fun h _ _ _ _ => runIssuerAdd_keeps h s)
  | issuerRemove => exact .next (onHead_keeps _ fun h _ _ _ _ => runIssuerRemove_keeps h s)
  | issuerLock => exact .next (onHead_keeps _ fun h _ _ _ _ => runIssuerLock_keeps h s)
  | keyStage => exact .next (onHead_keeps _ fun _ _ _ hf hp => runKeyStage_keeps hf hp)
  | keyRevoke => exact .next (onHead_keeps _ fun h _ _ _ _ => runKeyRevoke_keeps h s)
  | keyErase => exact .next (onHead_keeps _ fun h _ _ _ _ => runKeyErase_keeps h s)
  | setDay => exact .next (onHead_keeps _ fun h _ _ _ _ => runSetDay_keeps h s)
  | transportReplace => exact .next (onHead_keeps _ fun _ _ _ hf hp => runTransportReplace_keeps hf hp)
  | commit => exact .next (onHead_keeps _ fun h _ _ _ _ => runCommit_keeps h s)
  | logRead => exact .next (onHead_keeps _ fun _ _ _ _ _ => finish_keeps (.refl s))
  | laneStop => exact .next (onHead_keeps _ fun h _ _ _ _ => runLaneStop_keeps h s)
  | laneResume => exact .next (onHead_keeps _ fun _ _ ha hf hp => runLaneResume_keeps ha hf hp)
  | writeChannelIssue => exact (execWriteChannelIssue_quiet s).keeps
  | returnFirstWriteEnd r => exact execReturnFirstWriteEnd_keeps r s
  | returnOwnWriteEnd r => exact execReturnOwnWriteEnd_keeps r s
  | noticeWriteEnd r => exact (execNoticeWriteEnd_quiet r s).keeps
  | errorNoticeWriteEnd r => exact (execErrorNoticeWriteEnd_quiet r s).keeps
  | commitEraseEnd r => exact (execCommitEraseEnd_quiet r s).keeps
  | commitWordProgramEnd r => exact execCommitWordProgramEnd_keeps r s
  | spoilProgramEnd r => exact execSpoilProgramEnd_keeps r s
  | optionRecordReadEnd => exact (execOptionRecordReadEnd_quiet s).keeps
  | startCounterReadEnd => exact (execStartCounterReadEnd_quiet s).keeps
  | startCountProgramEnd r => exact (execStartCountProgramEnd_quiet r s).keeps
  | directoryImageReadEnd => exact (execDirectoryImageReadEnd_quiet hc).keeps
  | sliceImageReadEnd => exact (execSliceImageReadEnd_quiet hc).keeps
  | kcvCheckEnd => exact (execKcvCheckEnd_quiet hc).keeps
  | zeroizeMarkProgramEnd r => exact (execZeroizeMarkProgramEnd_quiet r s).keeps
  | zeroizeSectorEraseEnd r => exact (execZeroizeSectorEraseEnd_quiet r s).keeps
  | zeroizeFinalMarkEnd r => exact (execZeroizeFinalMarkEnd_quiet r s).keeps
  | keyRamDamage n k d => exact .next (Quiet.keeps (.of_fields rfl rfl rfl rfl rfl))

/-- The control law does not read the queue of commands. -/
theorem ControlLaw.of_pending {s : State} (hc : ControlLaw s) (p : List Instr) :
    ControlLaw { s with pending := p } :=
  ⟨hc.live_read_has_start, hc.start_in_stopped, hc.load_in_loading, hc.zeroize_in_zeroizing,
    hc.engines_free⟩

/-- Settles O56: every command keeps both laws, each shared operation by the way lanes give up cells. -/
theorem laneLawsKept : Obligations.LaneLawsKept := by
  unfold Obligations.LaneLawsKept
  intro s t hc hstep
  show KeepsLaneLaws s t
  unfold step at hstep
  split at hstep
  · cases hstep
    exact Quiet.keeps (.of_fields rfl rfl rfl rfl rfl)
  · next c rest _ =>
    have hq : Quiet s { s with pending := rest } := .of_fields rfl rfl rfl rfl rfl
    exact hq.keeps.trans (exec_keepsLaneLaws c (hc.of_pending rest) t hstep)

end Sys2Proof.Machine
end

section
namespace Sys2Proof.Machine

/-! ## A frozen device -/

/-- From `s` to `t` the service FIFO, the take numbers and, of every lane, all but its held and return
counts stand. -/
def TrafficStands (s t : State) : Prop :=
  t.fifo = s.fifo ∧ t.takeCounter = s.takeCounter
    ∧ ∀ l, { t.lane l with held := 0, returnCount := 0 }
        = { s.lane l with held := 0, returnCount := 0 }

theorem TrafficStands.trans {s t u : State} (h : TrafficStands s t) (g : TrafficStands t u) :
    TrafficStands s u :=
  ⟨g.1.trans h.1, g.2.1.trans h.2.1, fun l => (g.2.2 l).trans (h.2.2 l)⟩

theorem Quiet.stands {s t : State} (h : Quiet s t) : TrafficStands s t :=
  ⟨h.fifo, h.takes, fun l => by rw [h.lane]⟩

/-- One lane rewritten in its held and return counts only. -/
theorem TrafficStands.of_set {s t : State} {l : LaneNo} {x : Lane} (hl : t.lanes = s.lanes.set l x)
    (hx : { x with held := 0, returnCount := 0 } = { s.lane l with held := 0, returnCount := 0 })
    (hf : t.fifo = s.fifo) (ht : t.takeCounter = s.takeCounter) : TrafficStands s t := by
  refine ⟨hf, ht, fun m => ?_⟩
  rw [State.lane_of_set hl]
  split_ifs with e
  · rw [hx, e]
  · rfl

theorem not_active_of_frozen {s : State} (h : s.frozen = true) : s.active = false := by
  cases hd : s.device <;> simp_all [State.frozen, State.active]

theorem device_ne_of_frozen {s : State} (h : s.frozen = true) :
    s.device ≠ .loading ∧ s.device ≠ .stopped ∧ s.device ≠ .running ∧ s.device ≠ .stopping := by
  cases hd : s.device <;> simp_all [State.frozen]

/-! ### Shared operations in a frozen device -/

theorem settle_of_frozen (l : LaneNo) {s : State} (h : s.frozen = true) : settle l s = s := by
  unfold settle; rw [if_pos h]

theorem releaseCells_stands (l : LaneNo) (n : Nat) {s : State} (h : s.frozen = true) :
    TrafficStands s (releaseCells l n s) := by
  unfold releaseCells
  rw [settle_of_frozen l (s := s.setLane l { s.lane l with held := (s.lane l).held - n }) h]
  exact .of_set (l := l) rfl rfl rfl rfl

theorem makeEntry_stands (e : ReturnEntry) {s : State} (h : s.frozen = true) :
    TrafficStands s (makeEntry e s) := by
  rcases makeEntry_cases e s with ⟨_, he⟩ | ⟨_, he⟩ <;> rw [he]
  · exact Quiet.stands (.of_fields rfl rfl rfl rfl rfl)
  · exact releaseCells_stands _ _ h

theorem failReturnWrite_quiet_of_frozen (w : BusWrite) {s : State} (h : s.frozen = true) :
    Quiet s (failReturnWrite w s) := by
  unfold failReturnWrite
  simp only [h, Bool.not_true, Bool.and_false, Bool.false_eq_true, if_false]
  split <;> exact raiseReport_quiet _ s

theorem returnCell_stands {s : State} (h : s.frozen = true) : TrafficStands s (returnCell s) := by
  unfold returnCell
  split
  · exact (Quiet.refl s).stands
  · next e rest _ =>
    split
    · exact (Quiet.refl s).stands
    · have hcount : TrafficStands s { s with
          returnQueue := rest
          lanes := s.lanes.set e.lane
            { s.lane e.lane with returnCount := (s.lane e.lane).returnCount + 1 } } :=
        .of_set (l := e.lane) rfl rfl rfl rfl
      refine (hcount.trans (raiseLaneNotice_quiet e.lane _).stands).trans (releaseCells_stands _ _ ?_)
      unfold raiseLaneNotice
      split_ifs <;> exact h
    · exact releaseCells_stands e.lane 1 (s := { s with returnQueue := _ }) h

theorem commitEntry_stands (c : CommitOp) (st : Status) (fields : List ResultField) {s : State}
    (h : s.frozen = true) : TrafficStands s (commitEntry c st fields s) := by
  unfold commitEntry
  split
  · exact (Quiet.refl s).stands
  · exact makeEntry_stands _ h

/-- In a frozen device a report freezes nothing further. -/
theorem raiseReport_frozen (r : Report) {s : State} (h : s.frozen = true) :
    (raiseReport r s).frozen = true := by
  have hh : s.haltable = false := by
    obtain ⟨_, h1, h2, h3⟩ := device_ne_of_frozen h
    cases hd : s.device <;> simp_all [State.haltable]
  rw [frozen_congr (raiseReport_of_not_haltable hh).1, h]

theorem programSucceeds_stands (r : NvmRecord) (c : CommitOp) (k : Nat) {s : State}
    (h : s.frozen = true) : TrafficStands s (programSucceeds r c k s) := by
  unfold programSucceeds commitSucceeds
  dsimp only
  split
  · refine .trans (Quiet.stands ?_) (.trans (commitEntry_stands c _ _ ?_) (discardRecord_quiet _).stands)
    · exact .after (clearMark_quiet c _) (.of_fields rfl rfl rfl rfl rfl)
    · unfold clearMark
      split_ifs
      · exact h
      · split <;> exact h
  · exact Quiet.stands (.of_fields rfl rfl rfl rfl rfl)

theorem spoilEnds_stands (r : NvmRecord) (c : CommitOp) (f : Option Nat) {s : State}
    (h : s.frozen = true) : TrafficStands s (spoilEnds r c f s) :=
  (raiseReport_quiet _ s).stands.trans
    (.trans (commitEntry_stands c _ _ (raiseReport_frozen _ h)) (discardRecord_quiet _).stands)

/-! ### Commands in a frozen device -/

/-- What a command run in `s` must answer while the device stays frozen. -/
abbrev StandsIfFrozen (s t : State) : Prop := t.frozen = true → TrafficStands s t

theorem Answers.stands {s : State} {o : Host.Outcome State Fault Refusal} (h : Answers (Quiet s) o) :
    Answers (StandsIfFrozen s) o := h.mono fun _ hq _ => hq.stands

theorem Answers.unmoved {s : State} : Answers (StandsIfFrozen s) (.next s) :=
  .next fun _ => (Quiet.refl s).stands

/-- A CONTROL write in a frozen device is a soft reset that ends the freeze, or moves no traffic. -/
theorem controlWrite_stands (w : Word) {s : State} (h : s.frozen = true) :
    StandsIfFrozen s (controlWrite w s) := by
  have hlock : Quiet s (if w.getLsbD 3 then { s with lock := true } else s)
      ∧ (if w.getLsbD 3 then { s with lock := true } else s).device = s.device := by
    split_ifs
    · exact ⟨.of_fields rfl rfl rfl rfl rfl, rfl⟩
    · exact ⟨.refl s, rfl⟩
  unfold controlWrite
  split
  · unfold softResetRequest
    split_ifs
    · intro hf; cases hf
    · exact fun _ => (Quiet.refl s).stands
  · intro _
    dsimp only
    generalize (if w.getLsbD 3 = true then { s with lock := true } else s) = u at hlock ⊢
    obtain ⟨hq, hd⟩ := hlock
    refine hq.stands.trans ?_
    split
    · exact (startRequest_quiet u).stands
    · split
      · unfold stopRequest
        rw [if_neg (by rw [hd]; exact (device_ne_of_frozen h).2.2.1)]
        exact (Quiet.refl u).stands
      · exact (Quiet.refl u).stands

theorem postWrite_of_frozen (v : Word) {s : State} (h : s.frozen = true) : postWrite v s = s := by
  unfold postWrite
  split_ifs with _ hr
  · exact absurd hr.1 (device_ne_of_frozen h).2.2.1
  · rfl
  · rfl

theorem registerWrite_stands (offset width : Nat) (v : Word) {s : State} (h : s.frozen = true) :
    StandsIfFrozen s (registerWrite offset width v s) := by
  unfold registerWrite
  split_ifs
  · split
    · exact controlWrite_stands v h
    · exact fun _ => (execStationBaseWrite_quiet .lo v s).stands
    · exact fun _ => (execStationBaseWrite_quiet .hi v s).stands
    · exact fun _ => by rw [postWrite_of_frozen v h]; exact (Quiet.refl s).stands
    · exact fun _ => Quiet.stands (.of_fields rfl rfl rfl rfl rfl)
    · exact fun _ => Quiet.stands (.of_fields rfl rfl rfl rfl rfl)
    · exact fun _ => (Quiet.refl s).stands
  · exact fun _ => (Quiet.refl s).stands

theorem execStationRecordReadEnd_stands (r : ReadEnd) (s : State) :
    Answers (StandsIfFrozen s) (execStationRecordReadEnd r s) := by
  refine (execStationRecordReadEnd_cases r s).mono ?_
  rintro t (hq | ⟨_, b, rfl⟩) hf
  · exact hq.stands
  · cases hf

theorem execCellReadIssue_stands {s : State} (h : s.frozen = true) :
    Answers (StandsIfFrozen s) (execCellReadIssue s) := by
  unfold execCellReadIssue
  split
  · next hd _ _ => exact absurd hd (device_ne_of_frozen h).2.2.1
  · exact .unmoved

theorem execCellReadEnd_stands (r : ReadEnd) {s : State} (h : s.frozen = true) :
    Answers (StandsIfFrozen s) (execCellReadEnd r s) := by
  unfold execCellReadEnd
  split
  · refine .next fun _ => ?_
    unfold endCellRead
    rw [if_pos (by show (_ || s.frozen) = true; rw [h, Bool.or_true])]
    exact Quiet.stands (.after (endDiscarded_quiet _ _ _) (freeRead_quiet s))
  · exact .unmoved
  · exact .unmoved

theorem execDispatch_stands {s : State} (h : s.frozen = true) :
    Answers (StandsIfFrozen s) (execDispatch s) := by
  unfold execDispatch
  rw [not_active_of_frozen h]
  exact .unmoved

theorem workAt_of_free {s : State} {e : EngineNo} (h : s.engine e = none) (st : Stage) :
    s.workAt e st = none := by
  unfold State.workAt; rw [h]

theorem serviceAt_of_free {s : State} {e : EngineNo} (h : s.engine e = none) :
    s.serviceAt e = none := by
  unfold State.serviceAt; rw [h]

/-- A completion of a free engine has no effect. -/
theorem exec_of_free_engine {c : Instr} {e : EngineNo} {s : State} (h : s.engine e = none)
    (hc : c = .deriveComplete e ∨ c = .verifyComplete e ∨ c = .writeComplete e
      ∨ c = .evidenceComplete e ∨ c = .serviceUnwrapComplete e) : exec c s = .next s := by
  rcases hc with rfl | rfl | rfl | rfl | rfl
  · simp only [exec, execDeriveComplete, workAt_of_free h]
  · simp only [exec, execVerifyComplete, workAt_of_free h]
  · simp only [exec, execWriteComplete, workAt_of_free h]
  · simp only [exec, execEvidenceComplete, workAt_of_free h]
  · simp only [exec, execServiceUnwrapComplete, serviceAt_of_free h]

theorem onHead_of_frozen (kind : ServiceKind) (f : ServiceRequest → State → State) {s : State}
    (h : s.frozen = true) : onHead kind f s = s := by
  rcases onHead_cases kind f s with e | ⟨_, _, ha, _⟩
  · exact e
  · rw [not_active_of_frozen h] at ha; cases ha

theorem onHead_stands (kind : ServiceKind) (f : ServiceRequest → State → State) {s : State}
    (h : s.frozen = true) : Answers (StandsIfFrozen s) (.next (onHead kind f s)) := by
  rw [onHead_of_frozen kind f h]; exact .unmoved

theorem execReturnFirstWriteEnd_stands (r : BusEnd) {s : State} (h : s.frozen = true) :
    Answers (StandsIfFrozen s) (execReturnFirstWriteEnd r s) := by
  unfold execReturnFirstWriteEnd
  split
  · split
    · split
      · refine .next fun _ => ?_
        split
        · exact Quiet.stands (.after (markFirstDone_quiet _) (landWrite_quiet _ s))
        · exact (landWrite_quiet _ s).stands
      · refine .next fun _ => Quiet.stands ?_
        exact .after (failReturnWrite_quiet_of_frozen _ h) (.of_fields rfl rfl rfl rfl rfl)
    · exact .unmoved
  · exact .unmoved

theorem execReturnOwnWriteEnd_stands (r : BusEnd) {s : State} (h : s.frozen = true) :
    Answers (StandsIfFrozen s) (execReturnOwnWriteEnd r s) := by
  unfold execReturnOwnWriteEnd
  split
  · split
    · split
      · refine .next fun _ => ?_
        split
        · exact (landWrite_quiet _ s).stands.trans (returnCell_stands h)
        · exact (landWrite_quiet _ s).stands
      · refine .next fun _ => Quiet.stands ?_
        exact .after (failReturnWrite_quiet_of_frozen _ h) (.of_fields rfl rfl rfl rfl rfl)
    · exact .unmoved
  · exact .unmoved

theorem execCommitWordProgramEnd_stands (x : NvmEnd) {s : State} (h : s.frozen = true) :
    Answers (StandsIfFrozen s) (execCommitWordProgramEnd x s) := by
  unfold execCommitWordProgramEnd
  split
  · split
    · cases x with
      | success => exact .next fun _ => programSucceeds_stands _ _ _ (s := s.runTo _) h
      | failure => exact .next fun _ => Quiet.stands (.of_fields rfl rfl rfl rfl rfl)
    · exact .unmoved
    · exact .unmoved
  · exact .unmoved

theorem execSpoilProgramEnd_stands (x : NvmEnd) {s : State} (h : s.frozen = true) :
    Answers (StandsIfFrozen s) (execSpoilProgramEnd x s) := by
  unfold execSpoilProgramEnd
  split
  · split
    · refine .next fun _ => .trans (Quiet.stands ?_) (spoilEnds_stands _ _ _ ?_)
      · exact .after (spoilArray_quiet x _ _) (.of_fields rfl rfl rfl rfl rfl)
      · cases x <;> exact h
    · exact .unmoved
    · exact .unmoved
  · exact .unmoved

/-- No command but a cold reset moves the traffic of a device that stays frozen. -/
theorem exec_standsIfFrozen {c : Instr} {s : State} (hc : ControlLaw s) (h : s.frozen = true)
    (hne : c ≠ .coldReset) : Answers (StandsIfFrozen s) (exec c s) := by
  have hfree : ∀ e, s.engine e = none := hc.engines_free (.inr h)
  cases c with
  | coldReset => exact absurd rfl hne
  | tamperAssert => exact (execTamperAssert_quiet s).stands
  | tamperRelease => exact .next fun _ => Quiet.stands (.of_fields rfl rfl rfl rfl rfl)
  | start w | stop w | softReset w | lock w => exact .next (controlWrite_stands w h)
  | stationBaseWrite half v => exact .next fun _ => (execStationBaseWrite_quiet half v s).stands
  | post v => exact .next fun _ => by rw [postWrite_of_frozen v h]; exact (Quiet.refl s).stands
  | noticePendingWrite v | errorFlagsWrite v =>
    exact .next fun _ => Quiet.stands (.of_fields rfl rfl rfl rfl rfl)
  | ignoredRegisterWrite o w v => exact .next (registerWrite_stands o w v h)
  | stationRecordReadIssue => exact (execStationRecordReadIssue_quiet s).stands
  | stationRecordReadEnd r => exact execStationRecordReadEnd_stands r s
  | cellReadIssue => exact execCellReadIssue_stands h
  | cellReadEnd r => exact execCellReadEnd_stands r h
  | deadlineExpiry l take =>
    show Answers _ (execDeadlineExpiry l take s)
    unfold execDeadlineExpiry
    rw [if_pos h]
    exact .unmoved
  | dispatch => exact execDispatch_stands h
  | deriveComplete e | verifyComplete e | writeComplete e | evidenceComplete e
  | serviceUnwrapComplete e =>
    rw [exec_of_free_engine (hfree e) (by simp)]
    exact .unmoved
  | issuerAdd | issuerRemove | issuerLock | keyStage | keyRevoke | keyErase | setDay
  | transportReplace | commit | logRead | laneStop | laneResume => exact onHead_stands _ _ h
  | writeChannelIssue => exact (execWriteChannelIssue_quiet s).stands
  | returnFirstWriteEnd r => exact execReturnFirstWriteEnd_stands r h
  | returnOwnWriteEnd r => exact execReturnOwnWriteEnd_stands r h
  | noticeWriteEnd r => exact (execNoticeWriteEnd_quiet r s).stands
  | errorNoticeWriteEnd r => exact (execErrorNoticeWriteEnd_quiet r s).stands
  | commitEraseEnd r => exact (execCommitEraseEnd_quiet r s).stands
  | commitWordProgramEnd r => exact execCommitWordProgramEnd_stands r h
  | spoilProgramEnd r => exact execSpoilProgramEnd_stands r h
  | optionRecordReadEnd => exact (execOptionRecordReadEnd_quiet s).stands
  | startCounterReadEnd => exact (execStartCounterReadEnd_quiet s).stands
  | startCountProgramEnd r => exact (execStartCountProgramEnd_quiet r s).stands
  | directoryImageReadEnd => exact (execDirectoryImageReadEnd_quiet hc).stands
  | sliceImageReadEnd => exact (execSliceImageReadEnd_quiet hc).stands
  | kcvCheckEnd => exact (execKcvCheckEnd_quiet hc).stands
  | zeroizeMarkProgramEnd r => exact (execZeroizeMarkProgramEnd_quiet r s).stands
  | zeroizeSectorEraseEnd r => exact (execZeroizeSectorEraseEnd_quiet r s).stands
  | zeroizeFinalMarkEnd r => exact (execZeroizeFinalMarkEnd_quiet r s).stands
  | keyRamDamage n k d => exact .next fun _ => Quiet.stands (.of_fields rfl rfl rfl rfl rfl)

/-- Settles O60, command by command: what still acts in a frozen device drops or returns held cells at
most. -/
theorem frozenTrafficStands : Obligations.FrozenTrafficStands := by
  unfold Obligations.FrozenTrafficStands
  intro c s t hc h ht hne hf
  exact exec_standsIfFrozen hc h hne t ht hf

end Sys2Proof.Machine
end

section
namespace Sys2Proof.Machine

/-! ## Register writes and reads (R157 to R167) -/

/-- What an abandoned START leaves (R163). -/
theorem abandonStart_eq (s : State) :
    abandonStart s = { s with
      startResult := if s.startReq = none then s.startResult else .abandoned
      startReq := none } := by
  unfold abandonStart
  cases h : s.startReq <;> simp

/-- Without its cell reference a COMMIT's record is otherwise as it was (R127, R167). -/
theorem dropCellRef_of_commitOp {s : State} {r : NvmRecord} {c : CommitOp}
    (h : s.commitOp = some (r, c)) :
    dropCellRef s.nvmOp = some { r with op := .commit { c with cell := none } } := by
  unfold State.commitOp at h
  split at h
  · next hr =>
    split at h <;> cases h
    next hc => simp only [hr, dropCellRef, hc]
  · cases h

/-- A record that is no COMMIT's has no cell reference to drop. -/
theorem dropCellRef_of_no_commit {s : State} (h : s.commitOp = none) : dropCellRef s.nvmOp = s.nvmOp := by
  unfold State.commitOp at h
  split at h
  · next hr =>
    split at h
    · cases h
    · next hc => simp only [hr, dropCellRef, hc]
    · next hc => simp only [hr, dropCellRef, hc]
  · next hn => rw [hn]; rfl

/-- The record as `commitOp` gives it. -/
theorem commitOp_of_nvmOp {s : State} {r : NvmRecord} {c : CommitOp} (h : s.nvmOp = some r)
    (hc : r.op = .commit c) : s.commitOp = some (r, c) := by
  unfold State.commitOp; simp only [h, hc]

/-- A write in flight that loses its entry whichever lane it is of. -/
theorem detachWrite_none (o : Option BusWrite) :
    detachWrite none o = o.map fun w => { w with attached := false } := by
  cases o <;> simp [detachWrite]

theorem exec_softReset (s : State) : exec (.softReset 4) s = .next (softResetRequest s) := rfl

theorem softResetRequest_of_resettable {s : State} (h : s.softResettable = true) :
    softResetRequest s = softResetState s := if_pos h

/-- Settles O4: the two sides of the test of R167, and each field of the state it leaves. -/
theorem softResetClearsTraffic : Obligations.SoftResetClearsTraffic := by
  unfold Obligations.SoftResetClearsTraffic
  intro s
  rw [exec_softReset]
  constructor
  · intro hd
    have hr : s.softResettable = true := by
      rcases hd with hd | hd | hd | ⟨hd, hf⟩ <;> simp [State.softResettable, *]
    refine ⟨softResetState s, by rw [softResetRequest_of_resettable hr], ?_, ?_, ?_, ?_, ?_, ?_, ?_⟩
    · unfold softResetState
      rw [abandonStart_eq]
    · intro r h
      simp only [softResetState, h, discardRead]
    · intro a h
      simp only [softResetState, h, discardRead]
    · intro h
      simp only [softResetState, h, discardRead]
    · exact detachWrite_none s.writeChannel
    · intro r c h
      exact commitOp_of_nvmOp (dropCellRef_of_commitOp h) rfl
    · exact dropCellRef_of_no_commit
  · intro hd
    have hr : s.softResettable = false := by
      rcases hd with hd | hd | hd | ⟨hd, hf⟩ <;> simp [State.softResettable, *]
    simp [softResetRequest, hr]

/-- Settles O6, bit by bit, with the log's emptying by the record's own flag. -/
theorem flagRegisterWrites : Obligations.FlagRegisterWrites := by
  unfold Obligations.FlagRegisterWrites
  constructor
  · intro v s
    refine ⟨noticePendingWrite v s, rfl, rfl, fun i hi => ?_⟩
    simp only [noticePendingWrite, BitVec.getLsbD_and, BitVec.getLsbD_not, BitVec.getLsbD_setWidth]
    simp [hi]
  · intro v s
    refine ⟨errorFlagsWrite v s, rfl, rfl, fun i hi => ?_, fun r hr hf hv => ?_, fun r hr hfv => ?_,
      fun h => ?_⟩
    · simp only [errorFlagsWrite, BitVec.getLsbD_and, BitVec.getLsbD_not, BitVec.getLsbD_setWidth]
      simp [hi]
    · simp only [errorFlagsWrite, hr, logAfterClear, hf, hv, Bool.and_self, if_true]
    · simp only [errorFlagsWrite, hr, logAfterClear]
      rcases hfv with h | h <;> simp [h]
    · simp only [errorFlagsWrite, h, logAfterClear]

/-! ### The register window -/

/-- A byte of a part of a byte string. -/
theorem byteAt_bytesAt (b : Bytes) (off : Nat) {n i : Nat} (h : i < n) :
    byteAt (bytesAt b off n) i = byteAt b (off + i) := by
  simp [byteAt, bytesAt, h]

theorem registerWrite_of_width_ne {width : Nat} (h : width ≠ 4) (offset : Nat) (v : Word) (s : State) :
    registerWrite offset width v s = s := if_neg h

/-- A CONTROL write with START and STOP alike, and neither SOFT_RESET nor LOCK, does nothing (R159). -/
theorem controlWrite_of_no_command {v : Word} (h01 : v.getLsbD 0 = v.getLsbD 1)
    (h2 : v.getLsbD 2 = false) (h3 : v.getLsbD 3 = false) (s : State) : controlWrite v s = s := by
  unfold controlWrite
  simp only [h01, h2, h3, Bool.and_not_self, Bool.false_eq_true, if_false]

/-- The writes that R157 and R159 have ignored. -/
theorem registerWrite_ignored {offset : Nat} {v : Word}
    (h : offset % 4 ≠ 0 ∨ 0x20 ≤ offset ∨ offset = 0x04 ∨ offset = 0x14
      ∨ (offset = 0x00 ∧ v.getLsbD 0 = v.getLsbD 1 ∧ v.getLsbD 2 = false ∧ v.getLsbD 3 = false))
    (s : State) : registerWrite offset 4 v s = s := by
  unfold registerWrite
  rw [if_pos rfl]
  split
  · obtain ⟨_, h01, h2, h3⟩ : (0 : Nat) = 0 ∧ v.getLsbD 0 = v.getLsbD 1 ∧ v.getLsbD 2 = false
        ∧ v.getLsbD 3 = false := by simpa using h
    exact controlWrite_of_no_command h01 h2 h3 s
  on_goal 6 => rfl
  all_goals omega

/-- A misaligned offset, and one beyond the window, hold no register. -/
theorem registerContent_of_outside {offset : Nat} (h : offset % 4 ≠ 0 ∨ 0x20 ≤ offset) (s : State) :
    registerContent offset s = 0 := by
  unfold registerContent
  split
  on_goal 8 => rfl
  all_goals omega

theorem readRegister_word (offset : Nat) (s : State) :
    readRegister offset 4 s = leBytes32 (registerContent offset s) := if_pos rfl

theorem readRegister_narrow {width : Nat} (h : width ≠ 4) (offset : Nat) (s : State) :
    readRegister offset width s
      = bytesAt (leBytes32 (registerContent (offset / 4 * 4) s)) (offset % 4) width := if_neg h

/-- A register that holds 0 reads as four zero bytes. -/
theorem readRegister_of_zero {offset : Nat} {s : State} (h : registerContent offset s = 0) :
    readRegister offset 4 s = [0, 0, 0, 0] := by
  rw [readRegister_word, h]; decide

/-- Settles O5, by the three tests of a POST write. -/
theorem postSetsScanWanted : Obligations.PostSetsScanWanted := by
  unfold Obligations.PostSetsScanWanted
  intro v s
  have hexec : exec (.post v) s = .next (postWrite v s) := rfl
  rw [hexec]
  refine ⟨fun l hl hd hrun => ?_, fun hv => ?_, fun hd => ?_, fun l hl hrun => ?_, ?_⟩
  · have hv : v.toNat < 16 := by omega
    obtain rfl : ⟨v.toNat, hv⟩ = l := Fin.ext hl
    rw [postWrite, dif_pos hv, if_pos ⟨hd, hrun⟩]
    rfl
  · rw [postWrite, dif_neg (by omega)]
  · unfold postWrite
    split_ifs with _ h
    · exact absurd h.1 hd
    · rfl
    · rfl
  · have hv : v.toNat < 16 := by omega
    obtain rfl : ⟨v.toNat, hv⟩ = l := Fin.ext hl
    rw [postWrite, dif_pos hv, if_neg fun h => hrun h.2]
  · exact readRegister_of_zero rfl

/-! ### STATUS (R160) -/

theorem deviceCode_lt (d : DeviceState) : deviceCode d < 8 := by cases d <;> decide

theorem startResultCode_lt (r : StartResult) : startResultCode r < 16 := by cases r <;> decide

theorem flagAt_eq (b : Bool) (bit : Nat) : flagAt b bit = b.toNat * 2 ^ bit := by
  cases b <;> simp [flagAt]

/-- STATUS as a number: the codes and flags at their bits do not overlap. -/
theorem statusWord_toNat (s : State) :
    (statusWord s).toNat = deviceCode s.device + startResultCode s.startResult * 256
      + s.lanesClamped.toNat * 65536 + s.errorNoticeOff.toNat * 131072
      + s.optionDefaulted.toNat * 262144 + s.directoryLost.toNat * 524288
      + s.evidenceExhausted.toNat * 1048576 + s.tamperFault.toNat * 2097152
      + s.nvmOp.isSome.toNat * 4194304 := by
  have hd := deviceCode_lt s.device
  have hr := startResultCode_lt s.startResult
  have h16 := s.lanesClamped.toNat_lt
  have h17 := s.errorNoticeOff.toNat_lt
  have h18 := s.optionDefaulted.toNat_lt
  have h19 := s.directoryLost.toNat_lt
  have h20 := s.evidenceExhausted.toNat_lt
  have h21 := s.tamperFault.toNat_lt
  have h22 := s.nvmOp.isSome.toNat_lt
  simp only [statusWord, State.nvmBusy, flagAt_eq, BitVec.toNat_ofNat]
  omega

/-- A bit of a word whose number holds a flag there. -/
theorem getLsbD_eq_of_toNat {x : Word} {i : Nat} {b : Bool} (h : x.toNat / 2 ^ i % 2 = b.toNat) :
    x.getLsbD i = b := by
  rw [BitVec.getLsbD, Nat.testBit_eq_decide_div_mod_eq, h]
  cases b <;> rfl

/-- A field of a word, as a number. -/
theorem extractLsb'_toNat_eq (x : Word) (start len : Nat) :
    (x.extractLsb' start len).toNat = x.toNat / 2 ^ start % 2 ^ len := by
  rw [BitVec.extractLsb'_toNat, Nat.shiftRight_eq_div_pow]

/-- Every field of STATUS: codes and flags at their bits and zeros at the others (10.4). -/
theorem statusWord_fields (s : State) :
    ((statusWord s).extractLsb' 0 3).toNat = deviceCode s.device
    ∧ ((statusWord s).extractLsb' 8 4).toNat = startResultCode s.startResult
    ∧ (statusWord s).getLsbD 16 = s.lanesClamped ∧ (statusWord s).getLsbD 17 = s.errorNoticeOff
    ∧ (statusWord s).getLsbD 18 = s.optionDefaulted ∧ (statusWord s).getLsbD 19 = s.directoryLost
    ∧ (statusWord s).getLsbD 20 = s.evidenceExhausted ∧ (statusWord s).getLsbD 21 = s.tamperFault
    ∧ (statusWord s).getLsbD 22 = s.nvmOp.isSome
    ∧ (statusWord s).extractLsb' 3 5 = 0 ∧ (statusWord s).extractLsb' 12 4 = 0
    ∧ (statusWord s).extractLsb' 23 9 = 0 := by
  have hw := statusWord_toNat s
  have hd := deviceCode_lt s.device
  have hr := startResultCode_lt s.startResult
  have h16 := s.lanesClamped.toNat_lt
  have h17 := s.errorNoticeOff.toNat_lt
  have h18 := s.optionDefaulted.toNat_lt
  have h19 := s.directoryLost.toNat_lt
  have h20 := s.evidenceExhausted.toNat_lt
  have h21 := s.tamperFault.toNat_lt
  have h22 := s.nvmOp.isSome.toNat_lt
  simp only [← BitVec.toNat_inj, extractLsb'_toNat_eq]
  refine ⟨?_, ?_, getLsbD_eq_of_toNat ?_, getLsbD_eq_of_toNat ?_, getLsbD_eq_of_toNat ?_,
    getLsbD_eq_of_toNat ?_, getLsbD_eq_of_toNat ?_, getLsbD_eq_of_toNat ?_, getLsbD_eq_of_toNat ?_,
    ?_, ?_, ?_⟩
  on_goal 10 => rw [show (0 : BitVec 5).toNat = 0 from rfl]
  on_goal 11 => rw [show (0 : BitVec 4).toNat = 0 from rfl]
  on_goal 12 => rw [show (0 : BitVec 9).toNat = 0 from rfl]
  all_goals omega

/-- CONTROL reads as LOCK alone (R159). -/
theorem controlWord_getLsbD (lock : Bool) {i : Nat} (hi : i < 32) :
    (BitVec.ofNat 32 (flagAt lock 3)).getLsbD i = (decide (i = 3) && lock) := by
  revert i lock; decide

/-- A narrow register reads as its bits, and 0 above them. -/
theorem getLsbD_setWidth_word {n : Nat} (x : BitVec n) {i : Nat} (hi : i < 32) :
    (x.setWidth 32).getLsbD i = (decide (i < n) && x.getLsbD i) := by
  rw [BitVec.getLsbD_setWidth, decide_eq_true hi, Bool.true_and]
  by_cases h : i < n
  · simp [h]
  · rw [BitVec.getLsbD_of_ge x i (by omega), Bool.and_false]

/-- Settles O7, register by register. -/
theorem registerWindow : Obligations.RegisterWindow := by
  unfold Obligations.RegisterWindow
  refine ⟨fun v s => ⟨fun h => ?_, fun h half => ?_⟩, fun offset width v s h => ?_, fun s => ?_,
    by decide, by decide, fun offset s h => readRegister_of_zero (registerContent_of_outside h s), ?_⟩
  · have hb : ∀ half, exec (.stationBaseWrite half v) s = .next (stationBaseWrite half v s) :=
      fun _ => rfl
    simp only [hb, stationBaseWrite, h, Bool.false_eq_true, if_false, and_self]
  · have hb : exec (.stationBaseWrite half v) s = .next (stationBaseWrite half v s) := rfl
    rw [hb]
    simp only [stationBaseWrite, h, if_true]
  · have hx : exec (.ignoredRegisterWrite offset width v) s
        = .next (registerWrite offset width v s) := rfl
    rw [hx]
    rcases h with rfl | rfl | ⟨rfl, h⟩
    · rw [registerWrite_of_width_ne (by decide)]
    · rw [registerWrite_of_width_ne (by decide)]
    · rw [registerWrite_ignored h]
  · refine ⟨BitVec.ofNat 32 (flagAt s.lock 3), statusWord s, s.noticePending.setWidth 32,
      s.errorFlags.setWidth 32, readRegister_word _ s, readRegister_word _ s, readRegister_word _ s,
      readRegister_word _ s, readRegister_of_zero rfl, readRegister_word _ s, readRegister_word _ s,
      readRegister_word _ s, fun i hi => controlWord_getLsbD s.lock hi, ?_⟩
    obtain ⟨h1, h2, h3, h4, h5, h6, h7, h8, h9, h10, h11, h12⟩ := statusWord_fields s
    refine ⟨h1, h2, h3, h4, h5, h6, h7, h8, h9, h10, h11, h12, fun i hi => ?_, fun i hi => ?_⟩
    · exact getLsbD_setWidth_word _ hi
    · exact getLsbD_setWidth_word _ hi
  · intro offset width i s hw _ hi
    rw [readRegister_narrow (by omega), readRegister_word, byteAt_bytesAt _ _ hi]

end Sys2Proof.Machine
end

section
namespace Sys2Proof.Machine

/-! ## The state after reset (R169) -/

theorem reset_lane (l : LaneNo) : State.reset.lane l = Lane.initial := lane_replicate rfl l

theorem reset_engine (e : EngineNo) : State.reset.engine e = none := by
  simp [State.engine, State.reset]

theorem reset_slot (n : SliceNo) (k : SlotNo) : State.reset.slot n k = Slot.initial := by
  simp [State.slot, State.reset]

theorem reset_binding (n : SliceNo) :
    State.reset.binding n = if n = 0 then some { issuer := 0, locked := false, dirty := false } else none := by
  revert n; decide

theorem reset_controlLaw : ControlLaw State.reset where
  live_read_has_start := nofun
  start_in_stopped := nofun
  load_in_loading _ := rfl
  zeroize_in_zeroizing := nofun
  engines_free _ := reset_engine

theorem reset_directoryLaw : DirectoryLaw State.reset where
  codes_distinct m n b c hm hn _ := by
    rw [reset_binding] at hm hn
    split_ifs at hm hn with em en
    rw [em, en]
  station_bound _ := ⟨_, reset_binding 0, rfl⟩

theorem reset_slotLaw : SlotLaw State.reset where
  count_in_step := nofun
  early_empty _ _ _ n k := by rw [reset_slot]; rfl
  read_bound x n hx h := by
    obtain rfl : { step := .optionRead, stepEnd := 40 } = x := Option.some.inj hx
    rcases h with h | ⟨_, h⟩ <;> cases h
  loading_quiet _ := ⟨rfl, rfl⟩
  empty_holds_nothing n k _ := by rw [reset_slot]; exact ⟨rfl, rfl⟩
  free_empty _ n _ k := by rw [reset_slot]; rfl
  live_by_day n k i h := by rw [reset_slot] at h; cases h

theorem reset_generationLaw : GenerationLaw State.reset := by
  have hg : ∀ n k, (State.reset.slot n k).gen? = none := fun n k => by rw [reset_slot]; rfl
  refine ⟨fun n j k g h => ?_, fun n k g h => ?_, nofun, fun h rest n b k g hf => ?_⟩
  · rw [hg] at h; cases h
  · rw [hg] at h; cases h
  · cases hf

theorem reset_servingLaw : ServingLaw State.reset :=
  ⟨nofun, fun e w ref h => by rw [reset_engine] at h; cases h⟩

/-- Settles O8, each part by what the reset gives lanes, engines, slots and bindings. -/
theorem resetState : Obligations.ResetState := by
  unfold Obligations.ResetState
  have hl : ∀ l, (State.reset.lane l).state = .disabled ∧ (State.reset.lane l).held = 0
      ∧ (State.reset.lane l).cursor = 0 ∧ (State.reset.lane l).returnCount = 0
      ∧ (State.reset.lane l).pendingExt = [] ∧ (State.reset.lane l).queue = []
      ∧ (State.reset.lane l).scanWanted = false := by
    intro l; rw [reset_lane]; exact ⟨rfl, rfl, rfl, rfl, rfl, rfl, rfl⟩
  have hs : ∀ n k, (State.reset.slot n k).state = .empty ∧ (State.reset.slot n k).epoch = 0
      ∧ (State.reset.slot n k).key = none := by
    intro n k; rw [reset_slot]; exact ⟨rfl, rfl, rfl⟩
  obtain ⟨hheld, hlane⟩ := reset_laneLaws
  exact ⟨rfl, rfl, rfl, rfl, rfl, rfl, rfl, rfl, rfl, rfl, rfl, rfl, rfl, rfl, rfl, rfl, rfl, rfl, rfl,
    rfl, rfl, rfl, rfl, rfl, hl, reset_engine, hs, reset_binding, rfl, reset_memory_canonical,
    reset_controlLaw, hheld, hlane, reset_directoryLaw, ⟨Nat.zero_le _, List.nodup_nil⟩, nofun,
    reset_slotLaw, reset_generationLaw, reset_servingLaw⟩

/-! ## Result areas of pass requests (R19, R64, R65) -/

/-- The flags of RFLAGS, each at its bit, and zeros above (R65). -/
theorem rflags_bits (stale noEvidence hit clamped corrected : Bool) :
    (rflags stale noEvidence hit clamped corrected).getLsbD 0 = stale
    ∧ (rflags stale noEvidence hit clamped corrected).getLsbD 1 = noEvidence
    ∧ (rflags stale noEvidence hit clamped corrected).getLsbD 2 = hit
    ∧ (rflags stale noEvidence hit clamped corrected).getLsbD 3 = clamped
    ∧ (rflags stale noEvidence hit clamped corrected).getLsbD 4 = corrected
    ∧ (rflags stale noEvidence hit clamped corrected).extractLsb' 5 3 = 0 := by
  revert stale noEvidence hit clamped corrected; decide

/-- Only DEADLINE_CLAMPED can be set in a request that did not run (R19). -/
theorem rflags_not_run (clamped : Bool) :
    rflags false false false clamped false = if clamped then 0x08 else 0x00 := by
  revert clamped; decide

/-- The bytes of a result area of a request that ran, field by field (R64). -/
theorem runArea_bytes (w : PassWork) (now : Word) :
    (runArea w now).length = 28
    ∧ byteAt (runArea w now) 0 = (w.verdict.map verdictCode).getD 0xFF
    ∧ byteAt (runArea w now) 1 = modeCode w.mode
    ∧ byteAt (runArea w now) 2
        = rflags w.staleGen w.serial.isNone w.cacheHit w.request.deadlineClamped w.eccCorrected
    ∧ byteAt (runArea w now) 3 = w.newestGen
    ∧ (∀ i, i < 8 → byteAt (runArea w now) (4 + i) = byteAt (w.wbAuth.getD []) i)
    ∧ bytesAt (runArea w now) 12 4 = leBytes32 (w.serial.getD 0)
    ∧ (∀ i, i < 8 → byteAt (runArea w now) (16 + i) = byteAt (w.evMac.getD []) i)
    ∧ bytesAt (runArea w now) 24 4 = leBytes32 now := by
  refine ⟨rfl, rfl, rfl, rfl, rfl, fun i hi => ?_, rfl, fun i hi => ?_, rfl⟩ <;>
  · interval_cases i <;> rfl

/-- Settles O22, by the bytes of the areas and the flags' bits. -/
theorem passResultAreas : Obligations.PassResultAreas := by
  unfold Obligations.PassResultAreas
  refine ⟨fun r st now => ?_, fun w v now hv => ?_, rfl, rfl, rfl, by decide, by decide, by decide,
    by decide, by decide⟩
  · unfold notRunEntry notRunArea
    rw [rflags_not_run]
    rfl
  · obtain ⟨hlen, h0, h1, h2, h3, hwb, hserial, hmac, hdone⟩ := runArea_bytes w now
    obtain ⟨f0, f1, f2, f3, f4, f5⟩ := rflags_bits w.staleGen w.serial.isNone w.cacheHit
      w.request.deadlineClamped w.eccCorrected
    rw [hv] at h0
    rw [h2]
    exact ⟨hlen, h0, h1, f0, f1, f2, f3, f4, f5, h3, hwb, hserial, hmac, hdone⟩

/-! ## Tamper responses (R153 to R155) -/

/-- The array and the count of free values after a cut, as the statements' word has them. -/
theorem cutTo_cutNvm (s : State) : CutTo s (cutNvm s).nvm (cutNvm s).freeIndex := by
  unfold CutTo cutNvm
  cases h : s.nvmOp with
  | none => exact .inl ⟨rfl, rfl, rfl⟩
  | some r => exact .inr ⟨r, rfl, rfl, rfl⟩

/-- TAMPER takes no route code: its report is recorded (R150). -/
theorem raiseReport_tamper (s : State) : raiseReport tamperReport s = recordReport tamperReport s := rfl

/-- A state that answers a tamper assertion reports it and takes the action's response. -/
theorem tamperAssertion_responds {s : State}
    (h : s.device = .loading ∨ s.device = .stopped ∨ s.device = .running ∨ s.device = .stopping
      ∨ (s.device = .faulted ∧ s.tamperFault = false)) :
    tamperAssertion s = tamperResponse (recordReport tamperReport s) := by
  unfold tamperAssertion
  rcases h with h | h | h | h | ⟨h, hf⟩
  all_goals simp only [h, raiseReport_tamper]
  rw [hf]; rfl

/-- A tamper assertion in a state that answers it (R153). -/
theorem exec_tamperAssert_responds {s : State} (hp : s.tamperPin = false)
    (hd : s.device = .loading ∨ s.device = .stopped ∨ s.device = .running ∨ s.device = .stopping
      ∨ (s.device = .faulted ∧ s.tamperFault = false)) :
    exec .tamperAssert s
      = .next (tamperResponse (recordReport tamperReport { s with tamperPin := true })) := by
  show execTamperAssert s = _
  rw [execTamperAssert, hp, if_neg (by decide),
    tamperAssertion_responds (s := { s with tamperPin := true }) hd]

theorem tamperResponse_of_zeroize {s : State} (h : s.tamperAction = .zeroize) :
    tamperResponse s = zeroizeResponse s := by
  unfold tamperResponse; rw [h]

theorem tamperResponse_of_faultOnly {s : State} (h : s.tamperAction = .faultOnly) :
    tamperResponse s = faultOnlyResponse s := by
  unfold tamperResponse; rw [h]

theorem zeroizeKeys_slot (s : State) (n : SliceNo) (k : SlotNo) :
    (zeroizeKeys s).slot n k = (s.slot n k).cleared := by
  simp [State.slot, zeroizeKeys]

theorem clearKeyValues_slot (s : State) (n : SliceNo) (k : SlotNo) :
    (clearKeyValues s).slot n k = { s.slot n k with key := none } := by
  simp [State.slot, clearKeyValues]

/-- The ZEROIZE response, field by field (R154, R90, R142). -/
theorem zeroizeResponse_eq (s : State) :
    zeroizeResponse s = { s with
      device := .zeroizing, load := none
      startResult := if s.startReq = none then s.startResult else .abandoned
      startReq := none, readChannel := discardRead s.readChannel
      engines := Vector.replicate 2 none, cache := []
      slices := (zeroizeKeys s).slices, directory := baseDirectory, dirDirty := false
      currentDay := 0, transport := none, nvm := (cutNvm s).nvm, freeIndex := (cutNvm s).freeIndex
      nvmOp := some { op := .zeroize .mark false, startGt := s.gt, stepEnd := s.gt + 20 } } := by
  unfold zeroizeResponse freezeTraffic
  rw [abandonStart_eq, cutNvm_frame]
  rfl

/-- The FAULT_ONLY response, field by field (R155, R90). -/
theorem faultOnlyResponse_eq (s : State) :
    faultOnlyResponse s = { s with
      device := .faulted, tamperFault := true, load := none
      startResult := if s.startReq = none then s.startResult else .abandoned
      startReq := none, readChannel := discardRead s.readChannel
      engines := Vector.replicate 2 none, cache := [], slices := (clearKeyValues s).slices } := by
  unfold faultOnlyResponse freezeTraffic
  rw [abandonStart_eq]
  rfl

/-- Settles O10: the report, and then the response of the action in force. -/
theorem tamperResponses : Obligations.TamperResponses := by
  unfold Obligations.TamperResponses
  constructor
  · intro s hp ha hd
    have he := exec_tamperAssert_responds hp hd
    rw [tamperResponse_of_zeroize (s := recordReport tamperReport { s with tamperPin := true }) ha,
      zeroizeResponse_eq] at he
    exact ⟨_, _, _, cutTo_cutNvm (recordReport tamperReport { s with tamperPin := true }), he, rfl,
      fun n k => zeroizeKeys_slot _ n k⟩
  · intro s hp ha hd
    have he := exec_tamperAssert_responds hp hd
    rw [tamperResponse_of_faultOnly (s := recordReport tamperReport { s with tamperPin := true }) ha,
      faultOnlyResponse_eq] at he
    exact ⟨_, he, rfl, fun n k => clearKeyValues_slot _ n k⟩

/-! ## Routes of reports (R146, R150 to R152) -/

/-- Each class has a flag of its own. -/
theorem flagMask_getLsbD (c d : ErrClass) : (flagMask d).getLsbD (flagBit c) = decide (c = d) := by
  cases c <;> cases d <;> rfl

theorem recordReport_flags (r : Report) (s : State) (c : ErrClass) :
    (recordReport r s).errorFlags.getLsbD (flagBit c)
      = (s.errorFlags.getLsbD (flagBit c) || decide (c = r.cls)) := by
  show (s.errorFlags ||| flagMask r.cls).getLsbD (flagBit c) = _
  rw [BitVec.getLsbD_or, flagMask_getLsbD]

theorem raiseReport_flags (r : Report) (s : State) (c : ErrClass) :
    (raiseReport r s).errorFlags.getLsbD (flagBit c)
      = (s.errorFlags.getLsbD (flagBit c) || decide (c = r.cls)) := by
  rw [← recordReport_flags]
  rcases raiseReport_cases r s with h | h | ⟨_, _, h⟩ <;> rw [h] <;> rfl

theorem raiseReport_of_quiet {r : Report} {s : State} (h : routeOf s.routes r.cls = .quiet) :
    raiseReport r s = recordReport r s := by
  unfold raiseReport; rw [h]

theorem raiseErrorNotice_of_mem {c : ErrClass} {s : State} (h : Notice.error c ∈ s.noticeList) :
    raiseErrorNotice c s = s := by
  unfold raiseErrorNotice; rw [if_pos h]

theorem raiseErrorNotice_of_not_mem {c : ErrClass} {s : State} (h : Notice.error c ∉ s.noticeList) :
    raiseErrorNotice c s = { s with noticeList := s.noticeList ++ [.error c] } := by
  unfold raiseErrorNotice; rw [if_neg h]

theorem raiseReport_of_notice {r : Report} {s : State} (h : routeOf s.routes r.cls = .notice) :
    raiseReport r s = { recordReport r s with
      noticeList :=
        if s.errorFlags.getLsbD (flagBit r.cls) = false ∧ s.errorNoticeOff = false
            ∧ Notice.error r.cls ∉ s.noticeList then s.noticeList ++ [.error r.cls]
        else s.noticeList } := by
  unfold raiseReport
  rw [h]
  dsimp only
  split_ifs with h1 h2 h2
  · rcases h1 with h1 | h1
    · rw [h1] at h2; cases h2.1
    · rw [h1] at h2; cases h2.2.1
  · rfl
  · rw [raiseErrorNotice_of_not_mem (s := recordReport r s) h2.2.2]
    rfl
  · have hm : Notice.error r.cls ∈ s.noticeList := by
      simp only [not_or, Bool.not_eq_true] at h1
      by_contra hm
      exact h2 ⟨h1.1, h1.2, hm⟩
    exact raiseErrorNotice_of_mem (s := recordReport r s) hm

theorem raiseReport_of_halt {r : Report} {s : State} (h : routeOf s.routes r.cls = .halt) :
    raiseReport r s = if s.haltable then enterFaulted (recordReport r s) else recordReport r s := by
  unfold raiseReport; rw [h]

/-- Entry to FAULTED, field by field (R152, R25, R39, R163). -/
theorem enterFaulted_eq (s : State) :
    enterFaulted s = { s with
      device := .faulted, engines := Vector.replicate 2 none
      startResult := if s.startReq = none then s.startResult else .abandoned
      startReq := none, readChannel := discardRead s.readChannel } := by
  unfold enterFaulted freezeTraffic
  rw [abandonStart_eq]

/-- Settles O13, route by route. -/
theorem reportRouting : Obligations.ReportRouting := by
  unfold Obligations.ReportRouting
  refine ⟨?_, rfl, fun _ => rfl, fun _ => rfl, rfl, rfl⟩
  rintro r s t rfl
  refine ⟨raiseReport_flags r s, fun h => ?_, fun h => ?_, fun h => ⟨fun hd => ?_, fun hd => ?_⟩⟩
  · rw [raiseReport_of_quiet h]; rfl
  · rw [raiseReport_of_notice h]; rfl
  · have hh : s.haltable = true := by
      rcases hd with hd | hd | hd <;> simp [State.haltable, hd]
    rw [raiseReport_of_halt h, if_pos hh, enterFaulted_eq]
    rfl
  · have hh : s.haltable = false := by
      obtain ⟨h1, h2, h3⟩ := hd
      cases hd : s.device <;> simp_all [State.haltable]
    rw [raiseReport_of_halt h, hh]
    rfl

end Sys2Proof.Machine
end

section
namespace Sys2Proof.Machine

/-! ## START: the station record (R1 to R6) -/

/-- A page number is the address without its low 12 bits (R2). -/
theorem page_toNat (a : Addr) : (a.extractLsb' 12 52).toNat = a.toNat / 4096 := by
  have := a.isLt
  rw [BitVec.extractLsb'_toNat, Nat.shiftRight_eq_div_pow, Nat.mod_eq_of_lt (by omega)]

theorem stationWindow_basePage (b : Bytes) :
    (stationWindow b).basePage.toNat = (le64 b 8).toNat / 4096 := page_toNat _

theorem stationWindow_limitPage (b : Bytes) :
    (stationWindow b).limitPage.toNat = (le64 b 16).toNat / 4096 := page_toNat _

/-- Bytes inside the window of a station record (R2). -/
theorem stationWindow_holds (b : Bytes) (a n : Nat) :
    (stationWindow b).holds a n = true ↔
      (le64 b 8).toNat / 4096 * 4096 ≤ a ∧ a + n ≤ (le64 b 16).toNat / 4096 * 4096 + 4095 + 1 := by
  simp only [Window.holds, Window.first, Window.last, stationWindow_basePage, stationWindow_limitPage,
    Bool.and_eq_true, decide_eq_true_eq]

/-- The tests of R1 in their order, by what each finds. -/
theorem stationResult_of_tests {b : Bytes} {limit : Nat} {res : StartResult}
    (h : (le32 b 0 ≠ 0x4C4B0110 ∧ res = .badStation)
      ∨ (le32 b 0 = 0x4C4B0110 ∧ (le64 b 16).toNat / 4096 < (le64 b 8).toNat / 4096
          ∧ res = .windowEmpty)
      ∨ (le32 b 0 = 0x4C4B0110 ∧ (le64 b 8).toNat / 4096 ≤ (le64 b 16).toNat / 4096
          ∧ (byteAt b 24 = 0 ∨ ∀ l, laneAccepted b limit l = false) ∧ res = .noLanes)) :
    stationResult b limit = res ∧ res ≠ .ok := by
  unfold stationResult
  simp only [stationWindow_basePage, stationWindow_limitPage, stationSignature]
  rcases h with ⟨hsig, rfl⟩ | ⟨hsig, hw, rfl⟩ | ⟨hsig, hw, hl, rfl⟩
  · exact ⟨if_pos hsig, nofun⟩
  · rw [if_neg (not_not.mpr hsig), if_pos hw]
    exact ⟨rfl, nofun⟩
  · rw [if_neg (not_not.mpr hsig), if_neg (by omega)]
    refine ⟨?_, nofun⟩
    rcases hl with h0 | hn
    · exact if_pos h0
    · have hnone : allLanes.any (laneAccepted b limit) = false := by simp [hn]
      rw [hnone, if_neg Bool.false_ne_true, ite_self]

/-- A record that passes every test (R1). -/
theorem stationResult_of_passed {b : Bytes} {limit : Nat} (hsig : le32 b 0 = 0x4C4B0110)
    (hw : (le64 b 8).toNat / 4096 ≤ (le64 b 16).toNat / 4096) (hc : byteAt b 24 ≠ 0)
    (hl : ∃ l, laneAccepted b limit l = true) : stationResult b limit = .ok := by
  have hany : allLanes.any (laneAccepted b limit) = true := by
    obtain ⟨l, hl⟩ := hl
    exact List.any_eq_true.mpr ⟨l, mem_allLanes l, hl⟩
  unfold stationResult
  simp only [stationWindow_basePage, stationWindow_limitPage, stationSignature]
  rw [if_neg (not_not.mpr hsig), if_neg (by omega), if_neg hc, if_pos hany]

/-- The end of a live station record read. -/
theorem exec_stationRecordReadEnd_live {s : State} (h : s.readChannel = .station false) (r : ReadEnd) :
    exec (.stationRecordReadEnd r) s = .next (endStart r { s with readChannel := .free }) := by
  show execStationRecordReadEnd r s = _
  unfold execStationRecordReadEnd
  rw [h]
  rfl

/-- The end of the read of an abandoned START. -/
theorem exec_stationRecordReadEnd_abandoned {s : State} (h : s.readChannel = .station true)
    (r : ReadEnd) :
    exec (.stationRecordReadEnd r) s = .next (endDiscarded r none { s with readChannel := .free }) := by
  show execStationRecordReadEnd r s = _
  unfold execStationRecordReadEnd
  rw [h]
  rfl

/-- Settles O14: issue, failing tests, bus errors and the read of an abandoned START. -/
theorem stationRecordReads : Obligations.StationRecordReads := by
  unfold Obligations.StationRecordReads
  refine ⟨fun a s hreq hfree => ?_, fun b res s hlive htests => ?_, fun s => ⟨fun hlive => ?_, fun hab => ?_⟩⟩
  · show execStationRecordReadIssue s = _
    simp only [execStationRecordReadIssue, hreq, hfree, Bool.false_eq_true, if_false]
  · obtain ⟨hres, hne⟩ := stationResult_of_tests htests
    rw [exec_stationRecordReadEnd_live hlive]
    simp only [endStart, hres, hne, if_false]
  · rw [exec_stationRecordReadEnd_live hlive]
    rfl
  · exact ⟨fun b => exec_stationRecordReadEnd_abandoned hab _, exec_stationRecordReadEnd_abandoned hab _⟩

/-- A route code is bits 0..1 of its byte (R172). -/
theorem routeOfByte_eq (x : Byte) :
    routeOfByte x = if x.toNat % 4 = 0 then .quiet else if x.toNat % 4 = 1 then .notice else .halt := by
  have hx : (x.extractLsb' 0 2).toNat = x.toNat % 4 := by
    rw [BitVec.extractLsb'_toNat, Nat.shiftRight_zero]
  unfold routeOfByte
  rw [hx]
  generalize x.toNat % 4 = n
  rcases n with _ | _ | n <;> rfl

/-- When a lane record is accepted (R3, R4). -/
theorem laneAccepted_iff (b : Bytes) (limit : Nat) (l : LaneNo) :
    laneAccepted b limit l = true ↔
      (l.val < (byteAt b 24).toNat ∧ l.val < limit) ∧ 16 ≤ (laneRecord b l).stripLen
        ∧ (laneRecord b l).stripBase.toNat % 64 = 0
        ∧ (stationWindow b).holds (laneRecord b l).stripBase.toNat (64 * (laneRecord b l).stripLen) = true
        ∧ ((laneRecord b l).noticeEnable = true →
            (stationWindow b).holds (laneRecord b l).noticeAddr.toNat 4 = true) := by
  simp only [laneAccepted, laneRefused, laneCount, Bool.and_eq_true, Bool.not_eq_true',
    Bool.or_eq_false_iff, decide_eq_true_eq, decide_eq_false_iff_not, lt_min_iff, not_lt,
    bne_eq_false_iff_eq, Bool.not_eq_false', Bool.and_eq_false_imp]
  tauto

theorem servicesBelow_eq (b : Bytes) (limit : Nat) (l : LaneNo) :
    servicesBelow b limit l = (allLanes.filter fun m => decide (m.val < l.val) && laneAccepted b limit m
      && decide (byteAt b (64 + 32 * m.val + 10) = 0x01)).length := by
  rw [servicesBelow, List.countP_eq_length_filter]
  rfl

/-- Settles O15: the record applied, its route codes, and its lane records. -/
theorem stationRecordApplied : Obligations.StationRecordApplied := by
  unfold Obligations.StationRecordApplied
  refine ⟨fun b s hlive hsig hw hc hl => ?_, routeOfByte_eq, ?_⟩
  · have hexec : exec (.stationRecordReadEnd (.contents b)) s
        = .next (applyStation b { s with readChannel := .free, startReq := none }) := by
      rw [exec_stationRecordReadEnd_live hlive]
      simp only [endStart, stationResult_of_passed hsig hw hc hl, if_true]
    refine ⟨_, hexec, rfl, ?_, fun l ha => ?_, fun l ha => ?_⟩
    · show (!(stationWindow b).holds (le64 b 32).toNat 4) = false ↔ _
      rw [Bool.not_eq_false', stationWindow_holds]
      omega
    · rw [applyStation_lane, startLane, if_pos ha]
    · rw [applyStation_lane, startLane, if_neg (by simp [ha])]
  · rintro b limit l off base len first last rfl rfl rfl rfl rfl
    constructor
    · rw [laneAccepted_iff, stationWindow_holds, stationWindow_holds]
      simp only [laneRecord, and_assoc]
    · rw [laneSettings, servicesBelow_eq]
      rfl

end Sys2Proof.Machine
end

section
namespace Sys2Proof.Machine

/-! ## The lane that the read channel serves (R9) -/

/-- In a list of rising keys, the first hit is the hit with the least key. -/
theorem find?_eq_of_least {α : Type} {key : α → Nat} {p : α → Bool} {xs : List α} {x : α}
    (hs : xs.Pairwise fun a b => key a < key b) (hx : x ∈ xs) (hp : p x = true)
    (hmin : ∀ y ∈ xs, p y = true → key x ≤ key y) : xs.find? p = some x := by
  induction xs with
  | nil => cases hx
  | cons y ys ih =>
    obtain ⟨hy, hs⟩ := List.pairwise_cons.mp hs
    rw [List.find?_cons]
    split
    · next hpy =>
      have hle := hmin y List.mem_cons_self hpy
      rcases List.mem_cons.mp hx with rfl | hx
      · rfl
      · have := hy x hx; omega
    · next hpy =>
      rcases List.mem_cons.mp hx with rfl | hx
      · rw [hp] at hpy; cases hpy
      · exact ih hs hx fun z hz => hmin z (List.mem_cons_of_mem _ hz)

/-- The channel considers the lanes in the order of their distance past the lane last served. -/
theorem roundRobin_pairwise (last : LaneNo) : (roundRobin last).Pairwise fun a b =>
    (a.val + 31 - last.val) % 16 < (b.val + 31 - last.val) % 16 := by
  revert last; decide

theorem mem_roundRobin (last l : LaneNo) : l ∈ roundRobin last := by
  simp only [roundRobin, List.mem_append, List.mem_filter, mem_allLanes, true_and, decide_eq_true_eq]
  omega

theorem wantsRead_iff (x : Lane) :
    x.wantsRead = true ↔ x.state = .running ∧ x.scanWanted = true ∧ x.held < 8 := by
  simp only [Lane.wantsRead, Bool.and_eq_true, beq_iff_eq, decide_eq_true_eq, and_assoc]
  rfl

/-- Settles O16: the wanting lane nearest past the last served is the one found. -/
theorem cellReadIssueRoundRobin : Obligations.CellReadIssueRoundRobin := by
  unfold Obligations.CellReadIssueRoundRobin
  intro l s hd hfree hl hmin
  have hnext : s.nextServed = some l :=
    find?_eq_of_least (roundRobin_pairwise s.lastServed) (mem_roundRobin _ l) ((wantsRead_iff _).mpr hl)
      fun m _ hm => hmin m ((wantsRead_iff _).mp hm)
  show execCellReadIssue s = _
  simp only [execCellReadIssue, hd, hfree, hnext]
  rfl

/-! ## Cell reads (R10 to R12, R22, R25) -/

theorem exec_cellReadEnd {x : CellRead} {s : State} (h : s.readChannel = .cell x) (r : ReadEnd) :
    exec (.cellReadEnd r) s
      = .next (endCellRead x (readOutcome x.refused r) { s with readChannel := .free }) := by
  show execCellReadEnd r s = _
  simp only [execCellReadEnd, h]

/-- A live read of a RUNNING lane ends with contents (R10, R11). -/
theorem exec_cellReadEnd_reading {l : LaneNo} {pos : Nat} {s : State} (h : Reading l pos s) (b : Bytes) :
    exec (.cellReadEnd (.contents b)) s = .next (scanCell l pos b { s with readChannel := .free }) := by
  obtain ⟨hch, hrun, hfr⟩ := h
  rw [exec_cellReadEnd hch]
  unfold endCellRead
  rw [if_neg (by show ¬ (false || s.frozen) = true; simp [hfr]),
    if_neg (by show ¬ (false || (s.lane l).state != .running) = true; simp [hrun])]
  rfl

/-- A cell read that counts no more: its contents are thrown away, and only its bus error reported
(R12, R25). -/
theorem endCellRead_of_discarded {x : CellRead} {s : State} (h : x.discarded = true ∨ s.frozen = true)
    (r : ReadEnd) : endCellRead x r s = endDiscarded r (some x.lane) s := by
  unfold endCellRead
  rw [if_pos (by simpa using h)]

theorem endCellRead_stale_contents {x : CellRead} {s : State}
    (h : x.stale = true ∨ x.discarded = true ∨ s.frozen = true) (b : Bytes) :
    endCellRead x (.contents b) s = s := by
  unfold endCellRead
  split
  · rfl
  · next h1 =>
    simp only [Bool.or_eq_true, not_or] at h1
    rw [if_pos (by rw [h.resolve_right (by tauto), Bool.true_or])]

/-- The bus error of a read that still counts: a RUNNING lane is halted, and with a stale read a
DRAINING one (R12, R22). -/
theorem endCellRead_halts {x : CellRead} {s : State} (hd : x.discarded = false)
    (hf : s.frozen = false)
    (h : (x.stale = false ∧ (s.lane x.lane).state = .running) ∨ (s.lane x.lane).state = .draining) :
    endCellRead x .busError s = raiseReport (busReport (some x.lane)) (haltLane x.lane s) := by
  unfold endCellRead
  rw [if_neg (by simp [hd, hf])]
  rcases h with ⟨hs, hrun⟩ | hdr
  · rw [if_neg (by simp [hs, hrun])]
  · rw [if_pos (by simp [hdr])]
    simp only [hdr, if_true]

/-- The bus error of a stale read of a lane that is not DRAINING is reported only (R12). -/
theorem endCellRead_stale_busError {x : CellRead} {s : State} (hd : x.discarded = false)
    (hf : s.frozen = false) (hs : x.stale = true) (h : (s.lane x.lane).state ≠ .draining) :
    endCellRead x .busError s = raiseReport (busReport (some x.lane)) s := by
  unfold endCellRead
  rw [if_neg (by simp [hd, hf]), if_pos (by simp [hs])]
  simp only [h, if_false]

theorem readOutcome_busError {x : ReadEnd} {refused : Bool} (h : x = .busError ∨ refused = true) :
    readOutcome refused x = .busError := by
  unfold readOutcome
  split_ifs with hr
  · rfl
  · exact h.resolve_right hr

/-- Settles O17, by how a read counts when it ends. -/
theorem cellReadEndsWithoutTake : Obligations.CellReadEndsWithoutTake := by
  unfold Obligations.CellReadEndsWithoutTake
  refine ⟨fun b s => ⟨fun l pos hr hown => ?_, fun r hch href hst => ?_⟩,
    fun x r s hch hx => ⟨fun hdf => ?_, fun hd hf => ⟨fun h => ?_, fun h => ?_⟩⟩⟩
  · rw [exec_cellReadEnd_reading hr]
    unfold scanCell
    rw [if_neg (by simpa [cellOwned] using hown)]
    rfl
  · rw [exec_cellReadEnd hch]
    simp only [readOutcome, href, Bool.false_eq_true, if_false]
    rw [endCellRead_stale_contents (s := { s with readChannel := .free }) hst]
  · rw [exec_cellReadEnd hch, readOutcome_busError hx,
      endCellRead_of_discarded (s := { s with readChannel := .free }) hdf]
    rfl
  · rw [exec_cellReadEnd hch, readOutcome_busError hx,
      endCellRead_halts (s := { s with readChannel := .free }) hd hf h]
  · rw [exec_cellReadEnd hch, readOutcome_busError hx,
      endCellRead_stale_busError (s := { s with readChannel := .free }) hd hf h.1 h.2]

/-! ## Takes (R11 to R18) -/

theorem takeBasics_lane (l : LaneNo) (s : State) : (takeBasics l s).lane l = takenLane (s.lane l) := by
  rw [State.lane_of_set (s := s) (l := l) rfl, if_pos rfl]
  rfl

/-- The taken lane rewritten: the state but for its lane, the take number and nothing else. -/
theorem takeBasics_setLane (l : LaneNo) (x : Lane) (s : State) :
    (takeBasics l s).setLane l x
      = { s with lanes := s.lanes.set l x, takeCounter := s.takeCounter + 1 } := by
  unfold takeBasics State.setLane
  simp only [Vector.set_set]

theorem makeEntry_of_not_halted {e : ReturnEntry} {s : State} (h : (s.lane e.lane).state ≠ .halted) :
    makeEntry e s = { s with returnQueue := s.returnQueue ++ [e] } := if_neg h

/-- A chain of a RUNNING lane goes to the return queue. -/
theorem takeToQueue_taken {l : LaneNo} {e : ReturnEntry} {s : State} (he : e.lane = l)
    (hrun : (s.lane l).state = .running) :
    takeToQueue l e (takeBasics l s) = { s with
      lanes := s.lanes.set l { takenLane (s.lane l) with pendingExt := [] }
      takeCounter := s.takeCounter + 1
      returnQueue := s.returnQueue ++ [e] } := by
  unfold takeToQueue
  rw [takeBasics_lane, takeBasics_setLane]
  rw [makeEntry_of_not_halted]
  rw [State.lane_of_set (s := s) (l := l) rfl, if_pos he]
  show (s.lane l).state ≠ .halted
  rw [hrun]
  decide

/-- An entry of a chain with its last cell as read. -/
theorem asReadEntry_append (l : LaneNo) (cells : List TakenCell) (c : TakenCell) (st : Status) :
    asReadEntry l (cells ++ [c]) st =
      { lane := l, cells := cells ++ [c], status := st, result := bytesAt c.bytes 36 28
        firstDone := false } := by
  simp [asReadEntry, cellTail]

/-- The KIND codes outside 0x10 to 0x1B are no service kind's (10.1). -/
theorem serviceKindOf_eq_none {x : Byte} (h : x.toNat < 0x10 ∨ 0x1B < x.toNat) :
    serviceKindOf x = none := by
  unfold serviceKindOf
  split
  on_goal 13 => rfl
  all_goals omega

theorem kind_ne_of_service {x : Byte} {kind : ServiceKind} (h : serviceKindOf x = some kind) :
    x ≠ kindPass ∧ x ≠ kindExt := by
  constructor <;> rintro rfl <;> cases h

theorem takeCell_ext {l : LaneNo} {c : TakenCell} (h : cellKind c.bytes = 0x02) (s : State) :
    takeCell l c s = takeExt l c (takeBasics l s) := by
  unfold takeCell
  rw [h, if_neg (by decide), if_pos (by decide)]

theorem takeCell_unknown {l : LaneNo} {c : TakenCell} (h1 : (cellKind c.bytes).toNat ≠ 0x01)
    (h2 : (cellKind c.bytes).toNat ≠ 0x02)
    (h : (cellKind c.bytes).toNat < 0x10 ∨ 0x1B < (cellKind c.bytes).toNat) (s : State) :
    takeCell l c s = takeUnknown l c (takeBasics l s) := by
  unfold takeCell
  rw [if_neg fun e => h1 (by rw [e]; rfl), if_neg fun e => h2 (by rw [e]; rfl), serviceKindOf_eq_none h]

theorem takeCell_service {l : LaneNo} {c : TakenCell} {kind : ServiceKind}
    (h : serviceKindOf (cellKind c.bytes) = some kind) (s : State) :
    takeCell l c s = takeService l c kind s.takeCounter (takeBasics l s) := by
  obtain ⟨h1, h2⟩ := kind_ne_of_service h
  unfold takeCell
  rw [if_neg h1, if_neg h2, h]

theorem takeCell_pass {l : LaneNo} {c : TakenCell} (h : cellKind c.bytes = 0x01) (s : State) :
    takeCell l c s = takePass l c s.takeCounter (takeBasics l s) := by
  unfold takeCell
  rw [h, if_pos (by decide)]

/-- A part-owned cell of a live read is taken (R11). -/
theorem exec_cellReadEnd_taken {l : LaneNo} {pos : Nat} {b : Bytes} {s : State} (h : Reading l pos s)
    (hown : byteAt b 0 = 0x01) : exec (.cellReadEnd (.contents b)) s
      = .next (takeCell l { pos := pos, bytes := b } { s with readChannel := .free }) := by
  rw [exec_cellReadEnd_reading h]
  unfold scanCell
  rw [if_pos (by rw [cellOwned, hown]; rfl)]

theorem takenLane_pendingExt (x : Lane) : (takenLane x).pendingExt = x.pendingExt := rfl

theorem takenLane_service (x : Lane) : (takenLane x).config.service = x.config.service := rfl

theorem takeExt_appended {l : LaneNo} {s : State} (h : (s.lane l).pendingExt.length < 2)
    (c : TakenCell) : takeExt l c (takeBasics l s) = { s with
      lanes := s.lanes.set l { takenLane (s.lane l) with pendingExt := (s.lane l).pendingExt ++ [c] }
      takeCounter := s.takeCounter + 1 } := by
  unfold takeExt
  rw [takeBasics_lane, takenLane_pendingExt, if_pos h, takeBasics_setLane]

theorem takeExt_overlong {l : LaneNo} {s : State} (h : 2 ≤ (s.lane l).pendingExt.length)
    (c : TakenCell) : takeExt l c (takeBasics l s) = takeUnknown l c (takeBasics l s) := by
  unfold takeExt takeUnknown
  rw [takeBasics_lane, takenLane_pendingExt, if_neg (not_lt.mpr h)]

/-- A chain closed by a cell that no request can take is returned with it (R13, R15, R16). -/
theorem takeUnknown_taken {l : LaneNo} {s : State} (hrun : (s.lane l).state = .running) (c : TakenCell) :
    takeUnknown l c (takeBasics l s) = { s with
      lanes := s.lanes.set l { takenLane (s.lane l) with pendingExt := [] }
      takeCounter := s.takeCounter + 1
      returnQueue := s.returnQueue ++
        [{ lane := l, cells := (s.lane l).pendingExt ++ [c], status := .malformed
           result := bytesAt c.bytes 36 28, firstDone := false }] } := by
  unfold takeUnknown
  rw [takeBasics_lane, takenLane_pendingExt, asReadEntry_append, takeToQueue_taken (l := l) rfl hrun]

theorem takeService_chained {l : LaneNo} {s : State} (h : (s.lane l).pendingExt ≠ [])
    (c : TakenCell) (kind : ServiceKind) (take : Word) :
    takeService l c kind take (takeBasics l s) = takeUnknown l c (takeBasics l s) := by
  unfold takeService takeUnknown
  rw [takeBasics_lane, takenLane_pendingExt, if_pos h]

theorem takeService_notPermitted {l : LaneNo} {s : State} (hrun : (s.lane l).state = .running)
    (h : (s.lane l).pendingExt = []) (hs : (s.lane l).config.service = false) (c : TakenCell)
    (kind : ServiceKind) (take : Word) :
    takeService l c kind take (takeBasics l s) = { s with
      lanes := s.lanes.set l (takenLane (s.lane l))
      takeCounter := s.takeCounter + 1
      returnQueue := s.returnQueue ++
        [{ lane := l, cells := [c], status := .notPermitted, result := bytesAt c.bytes 36 28
           firstDone := false }] } := by
  have hl : { takenLane (s.lane l) with pendingExt := [] } = takenLane (s.lane l) := by rw [← h]; rfl
  unfold takeService
  rw [takeBasics_lane, takenLane_pendingExt, takenLane_service, if_neg (not_not.mpr h), hs,
    if_neg Bool.false_ne_true, takeToQueue_taken (l := l) rfl hrun, hl]
  rfl

theorem takeService_queued {l : LaneNo} {s : State} (h : (s.lane l).pendingExt = [])
    (hs : (s.lane l).config.service = true) (c : TakenCell) (kind : ServiceKind) (take : Word) :
    takeService l c kind take (takeBasics l s) = { s with
      lanes := s.lanes.set l (takenLane (s.lane l))
      takeCounter := s.takeCounter + 1
      fifo := s.fifo ++ [{ lane := l, cell := c, take := take, kind := kind, phase := .waiting }] } := by
  unfold takeService
  rw [takeBasics_lane, takenLane_pendingExt, takenLane_service, if_neg (not_not.mpr h), if_pos hs]
  rfl

/-- Settles O18, kind by kind. -/
theorem takeExtServiceUnknown : Obligations.TakeExtServiceUnknown := by
  unfold Obligations.TakeExtServiceUnknown
  refine ⟨fun b l pos s hr hown => ⟨?_, fun h => ?_⟩, fun b l pos kind s hr hown hk => ?_, by decide,
    fun x => serviceKindOf_eq_none⟩
  · rintro ⟨hk, hlen⟩
    rw [exec_cellReadEnd_taken hr hown, takeCell_ext (c := ⟨pos, b⟩) hk,
      takeExt_appended (s := { s with readChannel := .free }) hlen]
    rfl
  · have hq : takeCell l ⟨pos, b⟩ { s with readChannel := .free }
        = takeUnknown l ⟨pos, b⟩ (takeBasics l { s with readChannel := .free }) := by
      rcases h with ⟨hk, hlen⟩ | ⟨h1, h2, hk⟩
      · rw [takeCell_ext (c := ⟨pos, b⟩) hk, takeExt_overlong (s := { s with readChannel := .free }) hlen]
      · exact takeCell_unknown (c := ⟨pos, b⟩) h1 h2 hk _
    rw [exec_cellReadEnd_taken hr hown, hq,
      takeUnknown_taken (s := { s with readChannel := .free }) hr.2.1]
    rfl
  · rw [exec_cellReadEnd_taken hr hown, takeCell_service (c := ⟨pos, b⟩) hk]
    refine ⟨fun hp => ?_, fun hp hsv => ?_, fun hp hsv => ?_⟩
    · rw [takeService_chained (s := { s with readChannel := .free }) hp,
        takeUnknown_taken (s := { s with readChannel := .free }) hr.2.1]
      rfl
    · rw [takeService_notPermitted (s := { s with readChannel := .free }) hr.2.1 hp hsv]
      rfl
    · rw [takeService_queued (s := { s with readChannel := .free }) hp hsv]
      rfl

/-! ### PASS cells (R14, R27) -/

theorem passMalformed_iff (b : Bytes) (n : Nat) :
    passMalformed b n = true ↔ (byteAt b 6).toNat ≠ n ∨ 2 < (byteAt b 6).toNat
      ∨ 56 * (byteAt b 6).toNat < (byteAt b 7).toNat + (byteAt b 8).toNat
      ∨ 96 < (byteAt b 7).toNat ∨ 32 < (byteAt b 8).toNat := by
  simp only [passMalformed, Bool.or_eq_true, bne_iff_ne, decide_eq_true_eq, or_assoc]
  rfl

theorem takePass_malformed {l : LaneNo} {c : TakenCell} {take : Word} {s : State}
    (hrun : (s.lane l).state = .running)
    (h : passMalformed c.bytes (s.lane l).pendingExt.length = true) :
    takePass l c take (takeBasics l s) = { s with
      lanes := s.lanes.set l { takenLane (s.lane l) with pendingExt := [] }
      takeCounter := s.takeCounter + 1
      returnQueue := s.returnQueue
        ++ [notRunEntry (passRequestOf l (s.lane l).pendingExt c take) .malformed s.gt] } := by
  unfold takePass
  rw [takeBasics_lane, takenLane_pendingExt]
  dsimp only
  rw [if_pos h, takeToQueue_taken (l := l) rfl hrun]
  rfl

/-- A well-formed PASS cell goes to the test at take (R14, R27). -/
theorem takePass_tested {l : LaneNo} {c : TakenCell} {take : Word} {s : State}
    (h : passMalformed c.bytes (s.lane l).pendingExt.length = false) :
    takePass l c take (takeBasics l s) = queueRequest (passRequestOf l (s.lane l).pendingExt c take)
      { s with
        lanes := s.lanes.set l { takenLane (s.lane l) with pendingExt := [] }
        takeCounter := s.takeCounter + 1 } := by
  unfold takePass
  rw [takeBasics_lane, takenLane_pendingExt, takeBasics_setLane]
  dsimp only
  rw [h, if_neg Bool.false_ne_true]

theorem queueRequest_late {r : PassRequest} {s : State} (h : (r.deadline - s.gt).toInt ≤ 0) :
    queueRequest r s = makeEntry (notRunEntry r .late s.gt) s := if_pos h

theorem queueRequest_queued {r : PassRequest} {s : State} (h : 0 < (r.deadline - s.gt).toInt) :
    queueRequest r s = s.setLane r.lane
      { s.lane r.lane with queue := (s.lane r.lane).queue ++ [clampDeadline s.gt r] } :=
  if_neg (not_le.mpr h)

theorem clampDeadline_within {r : PassRequest} {now : Word} (h : (r.deadline - now).toInt ≤ 1000000) :
    clampDeadline now r = r := if_neg (not_lt.mpr h)

theorem clampDeadline_beyond {r : PassRequest} {now : Word} (h : 1000000 < (r.deadline - now).toInt) :
    clampDeadline now r = { r with deadline := now + 1000000, deadlineClamped := true } := if_pos h

/-- A lane that has just been rewritten takes a request into its queue. -/
theorem setLane_queue_of_set {l : LaneNo} {x : Lane} {s : State} {lanes : Vector Lane 16}
    (h : s.lanes = lanes.set l x) (q : List PassRequest) :
    s.setLane l { s.lane l with queue := (s.lane l).queue ++ q }
      = { s with lanes := lanes.set l { x with queue := x.queue ++ q } } := by
  have hl : s.lane l = x := by simp [State.lane, h]
  rw [hl]
  unfold State.setLane
  rw [h, Vector.set_set]

theorem takePass_late {l : LaneNo} {c : TakenCell} {take : Word} {s : State}
    (hrun : (s.lane l).state = .running)
    (h : passMalformed c.bytes (s.lane l).pendingExt.length = false)
    (hd : ((passRequestOf l (s.lane l).pendingExt c take).deadline - s.gt).toInt ≤ 0) :
    takePass l c take (takeBasics l s) = { s with
      lanes := s.lanes.set l { takenLane (s.lane l) with pendingExt := [] }
      takeCounter := s.takeCounter + 1
      returnQueue := s.returnQueue
        ++ [notRunEntry (passRequestOf l (s.lane l).pendingExt c take) .late s.gt] } := by
  rw [takePass_tested h, queueRequest_late, makeEntry_of_not_halted]
  · rw [State.lane_of_set (s := s) (l := l) rfl]
    split_ifs with e
    · show (s.lane l).state ≠ .halted
      rw [hrun]
      decide
    · exact absurd rfl e
  · exact hd

theorem takePass_queued {l : LaneNo} {c : TakenCell} {take : Word} {q : PassRequest} {s : State}
    (h : passMalformed c.bytes (s.lane l).pendingExt.length = false)
    (hd : 0 < ((passRequestOf l (s.lane l).pendingExt c take).deadline - s.gt).toInt)
    (hq : clampDeadline s.gt (passRequestOf l (s.lane l).pendingExt c take) = q) :
    takePass l c take (takeBasics l s) = { s with
      lanes := s.lanes.set l { takenLane (s.lane l) with
        pendingExt := [], queue := (s.lane l).queue ++ [q] }
      takeCounter := s.takeCounter + 1 } := by
  subst hq
  rw [takePass_tested h, queueRequest_queued]
  · exact setLane_queue_of_set (l := l) (x := { takenLane (s.lane l) with pendingExt := [] })
      (s := { s with
        lanes := s.lanes.set l { takenLane (s.lane l) with pendingExt := [] }
        takeCounter := s.takeCounter + 1 }) (lanes := s.lanes) rfl _
  · exact hd

/-- Settles O19, by the tests of R14 and the distance to the deadline. -/
theorem takePass_outcomes : Obligations.TakePass := by
  unfold Obligations.TakePass
  rintro b l pos r s hr hown hk rfl
  rw [exec_cellReadEnd_taken hr hown, takeCell_pass (c := ⟨pos, b⟩) hk]
  refine ⟨fun hbad => ?_, fun hgood => ?_⟩
  · have hm := (passMalformed_iff b (s.lane l).pendingExt.length).mpr hbad
    rw [takePass_malformed (c := ⟨pos, b⟩) (s := { s with readChannel := .free }) hr.2.1 hm]
    rfl
  · have hm : passMalformed b (s.lane l).pendingExt.length = false := by
      rw [← Bool.not_eq_true, passMalformed_iff]
      omega
    refine ⟨fun hd => ?_, fun hd => ?_, fun hd => ?_⟩
    · rw [takePass_late (c := ⟨pos, b⟩) (s := { s with readChannel := .free }) hr.2.1 hm hd]
      rfl
    · rw [takePass_queued (c := ⟨pos, b⟩) (s := { s with readChannel := .free }) hm hd.1
        (clampDeadline_within hd.2)]
      rfl
    · have h0 := lt_trans (show (0 : Int) < 1000000 by decide) hd
      rw [takePass_queued (c := ⟨pos, b⟩) (s := { s with readChannel := .free }) hm h0
        (clampDeadline_beyond hd)]
      rfl

end Sys2Proof.Machine
end

section
namespace Sys2Proof.Machine

/-! ## Cells that leave a lane (R40, R166) -/

/-- While the device does not stop, settling a lane at most pauses it (R40). -/
theorem settle_stays {l : LaneNo} {s : State}
    (h : s.device ≠ .stopping ∨ ∃ m, (s.lane m).held ≠ 0) :
    settle l s = s.setLane l { s.lane l with
      state := if s.frozen = false ∧ (s.lane l).state = .draining ∧ (s.lane l).held = 0 then .paused
        else (s.lane l).state } := by
  have hsame : s.setLane l (s.lane l) = s := by simp [State.setLane, State.lane]
  have hstop : ∀ t : State, t.device = s.device → (∀ m, (t.lane m).held = (s.lane m).held) →
      endStopping t = t := by
    intro t hd ht
    refine if_neg ?_
    rintro ⟨hs, h0⟩
    rcases h with h | ⟨m, hm⟩
    · exact h (hd ▸ hs)
    · exact hm (ht m ▸ (noneHeld_iff t).mp h0 m)
  unfold settle
  by_cases hf : s.frozen = true
  · rw [if_pos hf, if_neg (by simp [hf])]
    exact hsame.symm
  · have hff : s.frozen = false := by simpa using hf
    rw [if_neg hf]
    by_cases hp : (s.lane l).state = .draining ∧ (s.lane l).held = 0
    · rw [if_pos hp, if_pos ⟨hff, hp⟩]
      refine hstop _ rfl fun m => ?_
      rw [State.lane_setLane]
      split_ifs with e
      · rw [e]
      · rfl
    · rw [if_neg hp, if_neg fun g => hp g.2, hstop s rfl fun _ => rfl]
      exact hsame.symm

/-- With no cell held any more, settling a lane ends STOPPING (R166). -/
theorem settle_ends {l : LaneNo} {s : State} (hd : s.device = .stopping)
    (h0 : ∀ m, (s.lane m).held = 0) :
    (settle l s).device = .stopped ∧ ∀ m, (settle l s).lane m = { s.lane m with state := .disabled } := by
  have hstop : ∀ t : State, t.device = s.device → (∀ m, (t.lane m).held = 0) →
      endStopping t = enterStopped t := fun t ht h => if_pos ⟨ht.trans hd, (noneHeld_iff t).mpr h⟩
  unfold settle
  rw [if_neg (by simp [State.frozen, hd])]
  split_ifs with hp
  · rw [hstop]
    · refine ⟨rfl, fun m => ?_⟩
      rw [enterStopped_lane, State.lane_setLane]
      split_ifs with e
      · rw [e]
      · rfl
    · rfl
    · intro m
      rw [State.lane_setLane]
      split_ifs
      exacts [hp.2, h0 m]
  · rw [hstop s rfl h0]
    exact ⟨rfl, fun m => enterStopped_lane m s⟩

/-- The same, told of a lane that has just been rewritten. -/
theorem settle_ends_of_set {l : LaneNo} {x : Lane} {s t : State} (hl : t.lanes = s.lanes.set l x)
    (hd : t.device = .stopping) (hx : x.held = 0) (h0 : ∀ m, m ≠ l → (s.lane m).held = 0) :
    (settle l t).device = .stopped
    ∧ (settle l t).lane l = { x with state := .disabled }
    ∧ ∀ m, m ≠ l → (settle l t).lane m = { s.lane m with state := .disabled } := by
  have hlane := State.lane_of_set hl
  obtain ⟨hdev, hend⟩ := settle_ends (l := l) hd fun m => by
    rw [hlane]
    split_ifs with e
    exacts [hx, h0 m e]
  refine ⟨hdev, ?_, fun m hm => ?_⟩
  · rw [hend, hlane, if_pos rfl]
  · rw [hend, hlane, if_neg hm]

/-- Cells released while the device does not stop with them. -/
theorem releaseCells_stays {l : LaneNo} {n : Nat} {s : State}
    (h : s.device ≠ .stopping ∨ n < (s.lane l).held ∨ ∃ m, m ≠ l ∧ (s.lane m).held ≠ 0) :
    releaseCells l n s = s.setLane l { s.lane l with
      held := (s.lane l).held - n
      state := if s.frozen = false ∧ (s.lane l).state = .draining ∧ (s.lane l).held ≤ n then .paused
        else (s.lane l).state } := by
  have hl : (s.setLane l { s.lane l with held := (s.lane l).held - n }).lane l
      = { s.lane l with held := (s.lane l).held - n } := by rw [State.lane_setLane, if_pos rfl]
  unfold releaseCells
  rw [settle_stays, hl]
  · simp only [State.setLane, Vector.set_set, Nat.sub_eq_zero_iff_le]
    rfl
  · rcases h with h | h | ⟨m, hm, h⟩
    · exact .inl h
    · exact .inr ⟨l, by rw [hl]; exact Nat.sub_ne_zero_of_lt h⟩
    · exact .inr ⟨m, by rw [State.lane_setLane, if_neg hm]; exact h⟩

/-- The release of the device's last held cells ends STOPPING (R166). -/
theorem releaseCells_ends {l : LaneNo} {n : Nat} {s : State} (hd : s.device = .stopping)
    (hn : (s.lane l).held ≤ n) (h0 : ∀ m, m ≠ l → (s.lane m).held = 0) :
    (releaseCells l n s).device = .stopped
    ∧ (releaseCells l n s).lane l = { s.lane l with state := .disabled, held := 0 }
    ∧ ∀ m, m ≠ l → (releaseCells l n s).lane m = { s.lane m with state := .disabled } := by
  obtain ⟨hdev, hl, hm⟩ := settle_ends_of_set (l := l)
    (t := s.setLane l { s.lane l with held := (s.lane l).held - n }) rfl hd (Nat.sub_eq_zero_of_le hn) h0
  refine ⟨hdev, ?_, hm⟩
  rw [show (releaseCells l n s).lane l = _ from hl, Nat.sub_eq_zero_of_le hn]

/-! ## The halt of a lane (R19, R22) -/

theorem haltLane_stays {l : LaneNo} {s : State}
    (h : s.device ≠ .stopping ∨ haltDrops l s < (s.lane l).held ∨ ∃ m, m ≠ l ∧ (s.lane m).held ≠ 0) :
    (haltLane l s).device = s.device
    ∧ (haltLane l s).lanes = s.lanes.set l { s.lane l with
        state := .halted, scanWanted := false, pendingExt := [], queue := []
        held := (s.lane l).held - haltDrops l s } := by
  unfold haltLane
  rw [settle_of_not_draining]
  · exact ⟨rfl, rfl⟩
  · rw [State.lane_of_set (s := s) (l := l) rfl, if_pos rfl]
    exact nofun
  · rcases h with h | h | ⟨m, hm, h⟩
    · exact .inl h
    · refine .inr ⟨l, ?_⟩
      rw [State.lane_of_set (s := s) (l := l) rfl, if_pos rfl]
      exact Nat.sub_ne_zero_of_lt h
    · refine .inr ⟨m, ?_⟩
      rw [State.lane_of_set (s := s) (l := l) rfl, if_neg hm]
      exact h

theorem haltLane_ends {l : LaneNo} {s : State} (hd : s.device = .stopping)
    (hn : (s.lane l).held ≤ haltDrops l s) (h0 : ∀ m, m ≠ l → (s.lane m).held = 0) :
    (haltLane l s).device = .stopped
    ∧ (haltLane l s).lane l = { s.lane l with
        state := .disabled, scanWanted := false, pendingExt := [], queue := [], held := 0 }
    ∧ ∀ m, m ≠ l → (haltLane l s).lane m = { s.lane m with state := .disabled } := by
  have h0' := Nat.sub_eq_zero_of_le hn
  obtain ⟨hdev, hl, hm⟩ : (haltLane l s).device = .stopped ∧ _ ∧ _ :=
    settle_ends_of_set (l := l) (s := s)
      (x := { s.lane l with
        state := .halted, scanWanted := false, pendingExt := [], queue := []
        held := (s.lane l).held - haltDrops l s }) rfl hd h0' h0
  refine ⟨hdev, ?_, hm⟩
  rw [show (haltLane l s).lane l = _ from hl, h0']

theorem haltLane_readChannel (l : LaneNo) (s : State) :
    (haltLane l s).readChannel = staleRead l s.readChannel := by rw [haltLane_frame]

theorem haltLane_writeChannel (l : LaneNo) (s : State) :
    (haltLane l s).writeChannel = detachWrite (some l) s.writeChannel := by rw [haltLane_frame]

/-- Settles O20, from what settling a lane does. -/
theorem haltedLane : Obligations.HaltedLane := by
  unfold Obligations.HaltedLane
  refine ⟨?_, fun e s => ⟨makeEntry_of_not_halted, fun hh => ?_⟩⟩
  · rintro l s drops rfl
    refine ⟨haltLane l s, rfl, ?_, haltLane_stays, haltLane_ends, fun r hr => ?_,
      fun hr => ?_, fun w hw => ?_, fun hw => ?_⟩
    · conv_lhs => rw [haltLane_frame]
      rw [haltLane_readChannel, haltLane_writeChannel]
      rfl
    · rw [haltLane_readChannel, hr]
      rfl
    · rw [haltLane_readChannel]
      cases hc : s.readChannel with
      | cell r => exact absurd hc (hr r)
      | free => rfl
      | station a => rfl
    · rw [haltLane_writeChannel, hw]
      rfl
    · rw [haltLane_writeChannel, hw]
      rfl
  · have hm : makeEntry e s = releaseCells e.lane e.cells.length s := if_pos hh
    rw [hm]
    refine ⟨fun h => ?_, fun hd hn h0 => ?_⟩
    · rw [releaseCells_stays h, if_neg (by simp [hh])]
      rfl
    · obtain ⟨hdev, hself, hother⟩ := releaseCells_ends hd hn h0
      refine ⟨_, rfl, ?_, fun m => ?_⟩
      · conv_lhs => rw [releaseCells_frame, hdev]
      · by_cases hm : m = e.lane
        · rw [hm]
          exact hself
        · rw [← h0 m hm]
          exact hother m hm

end Sys2Proof.Machine
end

section
namespace Sys2Proof.Machine

/-! ## What the write channel takes (R20, R21, R151) -/

theorem execWriteChannelIssue_notice {n : Notice} {rest : List Notice} {s : State}
    (hw : s.writeChannel = none) (hs : s.sendsNotices = true) (hn : s.noticeList = n :: rest) :
    execWriteChannelIssue s = .next (issueNotice n { s with noticeList := rest }) := by
  unfold execWriteChannelIssue
  rw [hw, hs, hn]
  rfl

/-- With no notice pending, the oldest entry's present cell has the channel. -/
theorem execWriteChannelIssue_cell {e : ReturnEntry} {c : TakenCell} {cs : List TakenCell}
    {rest : List ReturnEntry} {s : State} (hw : s.writeChannel = none) (hs : s.sendsNotices = true)
    (hn : s.noticeList = []) (ha : s.active = true) (hq : s.returnQueue = e :: rest)
    (hc : e.cells = c :: cs) : execWriteChannelIssue s = .next (issueCellWrite e c s) := by
  unfold execWriteChannelIssue
  rw [hw, hs, hn, ha, hq]
  dsimp only
  rw [hc]
  rfl

theorem firstWriteData_length {e : ReturnEntry} {c : TakenCell} (h : e.result.length = 28) :
    (firstWriteData e c).length = 62 := by
  unfold firstWriteData
  split_ifs <;> simp [bytesAt, cellTail, h]

theorem issueCellWrite_first {e : ReturnEntry} (h : e.firstDone = false) (c : TakenCell) (s : State) :
    issueCellWrite e c s = issueWrite .first (some e.lane) (cellAddr (s.lane e.lane).config c.pos + 2)
      (firstWriteData e c) true s := if_neg (by simp [h])

theorem issueCellWrite_own {e : ReturnEntry} (h : e.firstDone = true) (c : TakenCell) (s : State) :
    issueCellWrite e c s = issueWrite .own (some e.lane) (cellAddr (s.lane e.lane).config c.pos)
      [0x00] true s := if_pos h

/-- Settles O23, by what the channel takes. -/
theorem writeChannelIssue : Obligations.WriteChannelIssue := by
  unfold Obligations.WriteChannelIssue
  intro s hw hd
  have hs : s.sendsNotices = true := by rcases hd with h | h | h <;> simp [State.sendsNotices, h]
  have ha : s.device ≠ .stopped → s.active = true := by
    intro hne
    rcases hd with h | h | h
    · exact absurd h hne
    · simp [State.active, h]
    · simp [State.active, h]
  refine ⟨fun l rest hn => ?_, fun c a rest hn haddr => ?_, fun e c cs rest hn hst hq hc hf hr => ?_,
    fun e c cs rest hn hst hq hc hf => ?_⟩
  · rw [show exec .writeChannelIssue s = _ from execWriteChannelIssue_notice hw hs hn]
    simp only [issueNotice, issueWrite, BitVec.ofNat_toNat, BitVec.setWidth_eq]
    rfl
  · rw [show exec .writeChannelIssue s = _ from execWriteChannelIssue_notice hw hs hn]
    simp only [issueNotice, issueWrite, haddr, Option.getD_some, BitVec.ofNat_toNat, BitVec.setWidth_eq]
    rfl
  · have hdata : firstWriteData e c = statusCode e.status :: (bytesAt c.bytes 3 33
        ++ if cs = [] then e.result else bytesAt c.bytes 36 28) := by
      simp [firstWriteData, hc, cellTail]
    rw [show exec .writeChannelIssue s = _ from execWriteChannelIssue_cell hw hs hn (ha hst) hq hc,
      issueCellWrite_first hf]
    unfold issueWrite
    rw [firstWriteData_length hr]
    exact ⟨_, rfl, rfl, rfl, rfl, rfl, hdata, rfl⟩
  · rw [show exec .writeChannelIssue s = _ from execWriteChannelIssue_cell hw hs hn (ha hst) hq hc,
      issueCellWrite_own hf]
    rfl

/-! ## The ends of writes (R20 to R24, R151) -/

theorem memGet_landWrite (w : BusWrite) (s : State) (a : Nat) :
    memGet (landWrite w s).hostMem a =
      if w.addr.toNat ≤ a ∧ a < w.addr.toNat + w.data.length then some (byteAt w.data (a - w.addr.toNat))
      else memGet s.hostMem a := memGet_hostPutBytes _ _ _ _

theorem writeOutcome_busError {x : BusEnd} {refused : Bool} (h : x = .busError ∨ refused = true) :
    writeOutcome refused x = .busError := by
  unfold writeOutcome
  split_ifs with hr
  · rfl
  · exact h.resolve_right hr

theorem writeOutcome_success : writeOutcome false .success = .success := rfl

/-- A failing return write, first or OWN, is handled by `failReturnWrite`. -/
theorem exec_returnWrite_fails {x : BusEnd} {c : Instr} {w : BusWrite} {s : State}
    (hw : s.writeChannel = some w)
    (hc : (w.kind = .first ∧ c = .returnFirstWriteEnd x) ∨ (w.kind = .own ∧ c = .returnOwnWriteEnd x))
    (hx : x = .busError ∨ w.refused = true) :
    exec c s = .next (failReturnWrite w { s with writeChannel := none }) := by
  rcases hc with ⟨hk, rfl⟩ | ⟨hk, rfl⟩
  · show execReturnFirstWriteEnd x s = _
    simp only [execReturnFirstWriteEnd, hw, hk, if_true, writeOutcome_busError hx]
  · show execReturnOwnWriteEnd x s = _
    simp only [execReturnOwnWriteEnd, hw, hk, if_true, writeOutcome_busError hx]

/-- A live lane is halted by its failing write (R22, R23). -/
theorem failReturnWrite_halts {w : BusWrite} {l : LaneNo} {s : State} (hl : w.lane = some l)
    (ha : w.attached = true) (hf : s.frozen = false)
    (h : (s.lane l).state = .running ∨ (s.lane l).state = .draining) :
    failReturnWrite w s = raiseReport (busReport (some l)) (haltLane l s) := by
  have hlive : haltIfLive l s = haltLane l s := if_pos h
  unfold failReturnWrite
  rw [hl, ha, hf, ← hlive]
  rfl

/-- A write whose entry is gone, or in a frozen device, halts nothing (R22, R25). -/
theorem failReturnWrite_reports {w : BusWrite} {l : LaneNo} {s : State} (hl : w.lane = some l)
    (h : w.attached = false ∨ s.frozen = true) :
    failReturnWrite w s = raiseReport (busReport (some l)) s := by
  have hoff : ¬ (w.attached && !s.frozen) = true := by rcases h with h | h <;> simp [h]
  unfold failReturnWrite
  rw [hl]
  dsimp only
  rw [if_neg hoff]

/-- Settles O25, by whether the write's entry still counts. -/
theorem returnWriteFails : Obligations.ReturnWriteFails := by
  unfold Obligations.ReturnWriteFails
  intro x c w l s hw hc hx hl
  rw [exec_returnWrite_fails hw hc hx]
  refine ⟨fun ⟨ha, hf, hlive⟩ => ?_, fun h => ?_⟩
  · rw [failReturnWrite_halts (s := { s with writeChannel := none }) hl ha hf hlive]
  · rw [failReturnWrite_reports (s := { s with writeChannel := none }) hl h]

theorem exec_returnFirstWriteEnd_success {w : BusWrite} {s : State} (hw : s.writeChannel = some w)
    (hk : w.kind = .first) (hr : w.refused = false) :
    exec (.returnFirstWriteEnd .success) s
      = .next (if w.attached then markFirstDone (landWrite w s) else landWrite w s) := by
  show execReturnFirstWriteEnd .success s = _
  simp only [execReturnFirstWriteEnd, hw, hk, hr, if_true, writeOutcome_success]

theorem markFirstDone_cons {e : ReturnEntry} {rest : List ReturnEntry} {s : State}
    (h : s.returnQueue = e :: rest) :
    (markFirstDone s).returnQueue = { e with firstDone := true } :: rest := by
  simp only [markFirstDone, h]

/-- The end of a write of either notice kind. -/
theorem exec_noticeWriteEnd {w : BusWrite} {c : BusEnd → Instr} {s : State} (hw : s.writeChannel = some w)
    (hc : (w.kind = .notice ∧ c = .noticeWriteEnd) ∨ (w.kind = .errorNotice ∧ c = .errorNoticeWriteEnd))
    (r : BusEnd) : exec (c r) s = .next (endNoticeWrite w r s) := by
  rcases hc with ⟨hk, rfl⟩ | ⟨hk, rfl⟩
  · show execNoticeWriteEnd r s = _
    simp only [execNoticeWriteEnd, hw, hk, if_true]
  · show execErrorNoticeWriteEnd r s = _
    simp only [execErrorNoticeWriteEnd, hw, hk, if_true]

theorem endNoticeWrite_busError {w : BusWrite} {r : BusEnd} (h : r = .busError ∨ w.refused = true)
    (s : State) :
    endNoticeWrite w r s = raiseReport (busReport w.lane) { s with writeChannel := none } := by
  unfold endNoticeWrite
  rw [writeOutcome_busError h]

/-- Settles O26, write by write. -/
theorem firstAndNoticeWritesEnd : Obligations.FirstAndNoticeWritesEnd := by
  unfold Obligations.FirstAndNoticeWritesEnd
  refine ⟨fun w e rest s hw hk hr => ?_, fun w c s hw hc => ⟨fun hr => ?_, ?_, fun hr => ?_⟩⟩
  · refine ⟨_, exec_returnFirstWriteEnd_success hw hk hr, ?_⟩
    cases ha : w.attached with
    | true =>
      exact ⟨rfl, fun _ hq => markFirstDone_cons hq, nofun, memGet_landWrite w s⟩
    | false => exact ⟨rfl, nofun, fun _ => rfl, memGet_landWrite w s⟩
  · refine ⟨landWrite w s, ?_, rfl, memGet_landWrite w s⟩
    rw [exec_noticeWriteEnd hw hc]
    unfold endNoticeWrite
    rw [hr]
    rfl
  · rw [exec_noticeWriteEnd hw hc, endNoticeWrite_busError (.inl rfl)]
    rfl
  · rw [exec_noticeWriteEnd hw hc, exec_noticeWriteEnd hw hc, endNoticeWrite_busError (.inr hr),
      endNoticeWrite_busError (.inl rfl)]

/-! ## The OWN write (R20, R21, R166) -/

theorem exec_returnOwnWriteEnd_success {w : BusWrite} {s : State} (hw : s.writeChannel = some w)
    (hk : w.kind = .own) (hr : w.refused = false) :
    exec (.returnOwnWriteEnd .success) s
      = .next (if w.attached then returnCell (landWrite w s) else landWrite w s) := by
  show execReturnOwnWriteEnd .success s = _
  simp only [execReturnOwnWriteEnd, hw, hk, hr, if_true, writeOutcome_success]

theorem noticeBit_getLsbD (l : LaneNo) {i : Nat} (hi : i < 16) :
    (noticeBit l).getLsbD i = decide (i = l.val) := by
  have h : ∀ (l : LaneNo) (i : Fin 16), (noticeBit l).getLsbD i.val = decide (i.val = l.val) := by decide
  exact h l ⟨i, hi⟩

theorem raiseLaneNotice_frame (l : LaneNo) (s : State) : raiseLaneNotice l s = { s with
    noticePending := (raiseLaneNotice l s).noticePending
    noticeList := (raiseLaneNotice l s).noticeList } := by
  unfold raiseLaneNotice
  split_ifs <;> rfl

theorem raiseLaneNotice_off {l : LaneNo} {s : State}
    (h : (s.lane l).config.noticeEnable = false ∨ s.noticePending.getLsbD l.val = true) :
    raiseLaneNotice l s = s := by
  refine if_neg ?_
  rintro ⟨he, hp⟩
  rcases h with h | h
  · exact absurd (h.symm.trans he) nofun
  · exact absurd (h.symm.trans hp) nofun

theorem raiseLaneNotice_on {l : LaneNo} {s : State} (he : (s.lane l).config.noticeEnable = true)
    (hp : s.noticePending.getLsbD l.val = false) :
    (∀ i, i < 16 → (raiseLaneNotice l s).noticePending.getLsbD i
      = (s.noticePending.getLsbD i || decide (i = l.val)))
    ∧ (raiseLaneNotice l s).noticeList = if Notice.lane l ∈ s.noticeList then s.noticeList
        else s.noticeList ++ [.lane l] := by
  unfold raiseLaneNotice
  rw [if_pos ⟨he, hp⟩]
  refine ⟨fun i hi => ?_, rfl⟩
  rw [BitVec.getLsbD_or, noticeBit_getLsbD l hi]

end Sys2Proof.Machine
end

section
namespace Sys2Proof.Machine

/-- A lane whose entry is complete (R21). -/
def returnedLane (x : Lane) : Lane := { x with returnCount := x.returnCount + 1 }

/-- The state that releases the last cell of its oldest entry: the entry is off the queue and its lane's
return count has risen. -/
def completeEntry (e : ReturnEntry) (rest : List ReturnEntry) (s : State) : State :=
  { s with returnQueue := rest, lanes := s.lanes.set e.lane (returnedLane (s.lane e.lane)) }

theorem returnCell_last {e : ReturnEntry} {c : TakenCell} {rest : List ReturnEntry} {s : State}
    (hq : s.returnQueue = e :: rest) (hc : e.cells = [c]) :
    returnCell s = releaseCells e.lane 1 (raiseLaneNotice e.lane (completeEntry e rest s)) := by
  unfold returnCell
  rw [hq]
  dsimp only
  rw [hc]
  rfl

theorem returnCell_more {e : ReturnEntry} {c c' : TakenCell} {cs : List TakenCell}
    {rest : List ReturnEntry} {s : State} (hq : s.returnQueue = e :: rest) (hc : e.cells = c :: c' :: cs)
    (h : 1 < (s.lane e.lane).held) : returnCell s = { s with
      returnQueue := { e with cells := c' :: cs, firstDone := false } :: rest
      lanes := s.lanes.set e.lane { s.lane e.lane with held := (s.lane e.lane).held - 1 } } := by
  unfold returnCell
  rw [hq]
  dsimp only
  rw [hc]
  dsimp only
  rw [releaseCells_stays]
  · rw [if_neg fun g => absurd g.2.2 (not_le.mpr h)]
    rfl
  · exact .inr (.inl h)

section
variable {l : LaneNo} {s u : State}

/-- The last cell's release after its lane's return count has risen, while cells are held elsewhere. -/
theorem releaseCells_returned_stays (hd : u.device = s.device)
    (hl : u.lanes = s.lanes.set l (returnedLane (s.lane l)))
    (h : s.device ≠ .stopping ∨ 1 < (s.lane l).held ∨ ∃ m, m ≠ l ∧ (s.lane m).held ≠ 0) :
    (releaseCells l 1 u).device = s.device
    ∧ (releaseCells l 1 u).lanes = s.lanes.set l { s.lane l with
        held := (s.lane l).held - 1
        returnCount := (s.lane l).returnCount + 1
        state := if s.frozen = false ∧ (s.lane l).state = .draining ∧ (s.lane l).held ≤ 1 then .paused
          else (s.lane l).state } := by
  have hlane := State.lane_of_set hl
  have hself : u.lane l = returnedLane (s.lane l) := by rw [hlane, if_pos rfl]
  rw [releaseCells_stays, hself, frozen_congr hd]
  · refine ⟨hd, ?_⟩
    show u.lanes.set _ _ = _
    rw [hl, Vector.set_set]
    rfl
  · rw [hd, hself]
    rcases h with h | h | ⟨m, hm, h⟩
    · exact .inl h
    · exact .inr (.inl h)
    · exact .inr (.inr ⟨m, hm, by rwa [hlane, if_neg hm]⟩)

/-- The release of the device's last held cell (R166). -/
theorem releaseCells_returned_ends (hd : u.device = s.device)
    (hl : u.lanes = s.lanes.set l (returnedLane (s.lane l))) (hs : s.device = .stopping)
    (h : (s.lane l).held ≤ 1) (h0 : ∀ m, m ≠ l → (s.lane m).held = 0) :
    (releaseCells l 1 u).device = .stopped
    ∧ (releaseCells l 1 u).lane l = { s.lane l with
        state := .disabled, held := 0, returnCount := (s.lane l).returnCount + 1 }
    ∧ ∀ m, m ≠ l → (releaseCells l 1 u).lane m = { s.lane m with state := .disabled } := by
  have hlane := State.lane_of_set hl
  have hself : u.lane l = returnedLane (s.lane l) := by rw [hlane, if_pos rfl]
  have hother : ∀ m, m ≠ l → u.lane m = s.lane m := fun m hm => by rw [hlane, if_neg hm]
  obtain ⟨hdev, hend, hrest⟩ := releaseCells_ends (l := l) (n := 1) (hd.trans hs)
    (by rw [hself]; exact h) fun m hm => by rw [hother m hm, h0 m hm]
  refine ⟨hdev, ?_, fun m hm => ?_⟩
  · rw [hend, hself]
    rfl
  · rw [hrest m hm, hother m hm]

end

theorem releaseCells_noticePending (l : LaneNo) (n : Nat) (s : State) :
    (releaseCells l n s).noticePending = s.noticePending := by rw [releaseCells_frame]

theorem releaseCells_noticeList (l : LaneNo) (n : Nat) (s : State) :
    (releaseCells l n s).noticeList = s.noticeList := by rw [releaseCells_frame]

theorem raiseLaneNotice_device (l : LaneNo) (s : State) : (raiseLaneNotice l s).device = s.device := by
  rw [raiseLaneNotice_frame]

theorem raiseLaneNotice_lanes (l : LaneNo) (s : State) : (raiseLaneNotice l s).lanes = s.lanes := by
  rw [raiseLaneNotice_frame]

/-- What the release of a cell after its lane's notice can move. -/
theorem releaseCells_raiseLaneNotice_frame (l : LaneNo) (n : Nat) (s : State) :
    releaseCells l n (raiseLaneNotice l s) = { s with
      device := (releaseCells l n (raiseLaneNotice l s)).device
      lanes := (releaseCells l n (raiseLaneNotice l s)).lanes
      noticePending := (raiseLaneNotice l s).noticePending
      noticeList := (raiseLaneNotice l s).noticeList } := by
  conv_lhs => rw [releaseCells_frame]
  unfold raiseLaneNotice
  split_ifs <;> rfl

/-- What the return of an entry's last cell leaves unchanged. -/
theorem returnCell_last_frame {e : ReturnEntry} {c : TakenCell} {rest : List ReturnEntry} {s : State}
    (hq : s.returnQueue = e :: rest) (hc : e.cells = [c]) : returnCell s = { s with
      returnQueue := rest
      device := (returnCell s).device, lanes := (returnCell s).lanes
      noticePending := (returnCell s).noticePending, noticeList := (returnCell s).noticeList } := by
  rw [returnCell_last hq hc, releaseCells_noticePending, releaseCells_noticeList]
  exact releaseCells_raiseLaneNotice_frame e.lane 1 (completeEntry e rest s)

theorem completeEntry_config (e : ReturnEntry) (rest : List ReturnEntry) (s : State) :
    ((completeEntry e rest s).lane e.lane).config = (s.lane e.lane).config := by
  rw [State.lane_of_set (s := s) (l := e.lane) rfl, if_pos rfl]
  rfl

/-- `returnCell` at a state that has just landed its write keeps the host memory. -/
theorem returnCell_hostMem (s : State) : (returnCell s).hostMem = s.hostMem := by
  unfold returnCell
  split
  · rfl
  · split
    · rfl
    · rw [releaseCells_frame, raiseLaneNotice_frame]
    · rw [releaseCells_frame]

/-- Settles O24, by how many cells the entry still has. -/
theorem ownWriteReturnsCell : Obligations.OwnWriteReturnsCell := by
  unfold Obligations.OwnWriteReturnsCell
  intro w s hw hk hr
  rw [exec_returnOwnWriteEnd_success hw hk hr]
  cases ha : w.attached with
  | false => exact ⟨landWrite w s, rfl, memGet_landWrite w s, fun _ => rfl, nofun, nofun⟩
  | true =>
    refine ⟨returnCell (landWrite w s), rfl, fun a => ?_, nofun, fun e c c' cs rest _ hq hc hheld => ?_,
      fun e c rest _ hq hc => ?_⟩
    · rw [returnCell_hostMem, memGet_landWrite]
    · rw [returnCell_hostMem, returnCell_more (s := landWrite w s) hq hc hheld]
      rfl
    · have hlast := returnCell_last (s := landWrite w s) hq hc
      have hdev : (raiseLaneNotice e.lane (completeEntry e rest (landWrite w s))).device = s.device :=
        raiseLaneNotice_device _ _
      have hlanes : (raiseLaneNotice e.lane (completeEntry e rest (landWrite w s))).lanes
          = s.lanes.set e.lane (returnedLane (s.lane e.lane)) := raiseLaneNotice_lanes _ _
      refine ⟨?_, ?_, ?_, ?_, ?_⟩
      · conv_lhs => rw [returnCell_last_frame (s := landWrite w s) hq hc]
        rw [returnCell_hostMem]
        rfl
      · rw [hlast]
        exact releaseCells_returned_stays hdev hlanes
      · rw [hlast]
        exact releaseCells_returned_ends hdev hlanes
      · intro hoff
        rw [hlast, releaseCells_noticePending, releaseCells_noticeList, raiseLaneNotice_off]
        · exact ⟨rfl, rfl⟩
        · rw [completeEntry_config]
          exact hoff
      · intro he hp
        rw [hlast, releaseCells_noticePending, releaseCells_noticeList]
        refine raiseLaneNotice_on ?_ hp
        rw [completeEntry_config]
        exact he

end Sys2Proof.Machine
end

section
namespace Sys2Proof.Machine

/-! ## The key store alone -/

/-- From `s` to `t` the key store, the cache and the re-mark of a commit in flight alone may change. -/
def KeyStoreOnly (s t : State) : Prop :=
  ∃ d k c n, t = { s with directory := d, slices := k, cache := c, nvmOp := n }

theorem KeyStoreOnly.refl (s : State) : KeyStoreOnly s s := ⟨_, _, _, _, rfl⟩

theorem KeyStoreOnly.trans {s t u : State} (h : KeyStoreOnly s t) (g : KeyStoreOnly t u) :
    KeyStoreOnly s u := by
  obtain ⟨_, _, _, _, rfl⟩ := h
  obtain ⟨_, _, _, _, rfl⟩ := g
  exact ⟨_, _, _, _, rfl⟩

theorem KeyStoreOnly.device {s t : State} (h : KeyStoreOnly s t) : t.device = s.device := by
  obtain ⟨_, _, _, _, rfl⟩ := h
  rfl

theorem makeFaulty_keyStoreOnly (n : SliceNo) (k : SlotNo) (s : State) :
    KeyStoreOnly s (makeFaulty n k s) := ⟨_, _, _, _, rfl⟩

theorem findKey_keyStoreOnly (s : State) (r : PassRequest) : KeyStoreOnly s (findKey s r).state := by
  unfold findKey
  split
  · exact .refl s
  · split
    · exact ⟨_, _, _, _, rfl⟩
    · unfold masterRead
      split
      · exact .refl s
      · exact .refl s
      · exact makeFaulty_keyStoreOnly _ _ s

theorem readEvidence_keyStoreOnly (lane : LaneNo) (fuel : Nat) (s : State) :
    KeyStoreOnly s (readEvidence lane fuel s).state := by
  induction fuel generalizing s with
  | zero => exact .refl s
  | succ fuel ih =>
    unfold readEvidence
    split
    · exact .refl s
    · split
      · exact .refl s
      · exact .refl s
      · exact (makeFaulty_keyStoreOnly 0 _ s).trans (ih _)

theorem decideEvidence_keyStoreOnly (s : State) (r : PassRequest) :
    KeyStoreOnly s (decideEvidence s r).state := by
  unfold decideEvidence
  split
  · exact readEvidence_keyStoreOnly _ _ s
  · exact .refl s

end Sys2Proof.Machine
end

section
namespace Sys2Proof.Machine

/-! ## Nothing begins -/

/-- From `s` to `t` no START, load, zeroize, work of an engine or live station record read begins, and the
device keeps its state or ends STOPPING. -/
structure NothingBegins (s t : State) : Prop where
  device : t.device = s.device ∨ (s.device = .stopping ∧ t.device = .stopped)
  start : t.startReq.isSome = true → s.startReq.isSome = true
  load : t.load.isSome = true → s.load.isSome = true
  zeroize : t.zeroizeOp.isSome = true → s.zeroizeOp.isSome = true
  engines : ∀ e, s.engine e = none → t.engine e = none
  reads : t.readChannel = .station false → s.readChannel = .station false ∧ t.startReq = s.startReq

/-- The zeroize in flight is a matter of the operation record alone. -/
theorem zeroizeOp_congr {s t : State} (h : t.nvmOp = s.nvmOp) : t.zeroizeOp = s.zeroizeOp := by
  simp only [State.zeroizeOp, h]

/-- A COMMIT in flight is no zeroize. -/
theorem zeroizeOp_of_commit {s : State} {r : NvmRecord} {c : CommitOp} (h : s.nvmOp = some r)
    (hc : r.op = .commit c) : s.zeroizeOp = none := by
  simp only [State.zeroizeOp, h, hc]

/-- The fields of the device controller, the operation record, the engines and the read channel all
stand. -/
theorem NothingBegins.of_fields {s t : State} (hd : t.device = s.device) (hs : t.startReq = s.startReq)
    (hl : t.load = s.load) (hn : t.nvmOp = s.nvmOp) (he : t.engines = s.engines)
    (hr : t.readChannel = s.readChannel) : NothingBegins s t where
  device := .inl hd
  start := by rw [hs]; exact id
  load := by rw [hl]; exact id
  zeroize := by rw [zeroizeOp_congr hn]; exact id
  engines e h := by rw [State.engine_congr he, h]
  reads h := ⟨hr ▸ h, hs⟩

/-- The operation record becomes one of no zeroize, and the rest stands. -/
theorem NothingBegins.of_record {s t : State} (hd : t.device = s.device) (hs : t.startReq = s.startReq)
    (hl : t.load = s.load) (hn : t.zeroizeOp = none) (he : t.engines = s.engines)
    (hr : t.readChannel = s.readChannel) : NothingBegins s t where
  device := .inl hd
  start := by rw [hs]; exact id
  load := by rw [hl]; exact id
  zeroize := by rw [hn]; nofun
  engines e h := by rw [State.engine_congr he, h]
  reads h := ⟨hr ▸ h, hs⟩

theorem NothingBegins.refl (s : State) : NothingBegins s s := .of_fields rfl rfl rfl rfl rfl rfl

theorem NothingBegins.trans {s t u : State} (h : NothingBegins s t) (g : NothingBegins t u) :
    NothingBegins s u where
  device := by
    rcases h.device with hd | ⟨hs, hd⟩ <;> rcases g.device with gd | ⟨gs, gd⟩
    · exact .inl (gd.trans hd)
    · exact .inr ⟨hd ▸ gs, gd⟩
    · exact .inr ⟨hs, gd.trans hd⟩
    · exact .inr ⟨hs, gd⟩
  start := h.start ∘ g.start
  load := h.load ∘ g.load
  zeroize := h.zeroize ∘ g.zeroize
  engines e he := g.engines e (h.engines e he)
  reads hr := by
    obtain ⟨ht, hs⟩ := g.reads hr
    obtain ⟨h1, h2⟩ := h.reads ht
    exact ⟨h1, hs.trans h2⟩

/-- `NothingBegins.trans` with the later part first. -/
theorem NothingBegins.after {s t u : State} (g : NothingBegins t u) (h : NothingBegins s t) :
    NothingBegins s u := h.trans g

/-- From `s` to `t` the control law is kept. -/
def KeepsControl (s t : State) : Prop := ControlLaw s → ControlLaw t

theorem KeepsControl.refl (s : State) : KeepsControl s s := id

theorem KeepsControl.trans {s t u : State} (h : KeepsControl s t) (g : KeepsControl t u) :
    KeepsControl s u := g ∘ h

/-- `KeepsControl.trans` with the later part first. -/
theorem KeepsControl.after {s t u : State} (g : KeepsControl t u) (h : KeepsControl s t) :
    KeepsControl s u := h.trans g

/-- Where nothing begins the law is kept: a device that ends STOPPING has no START, load or zeroize. -/
theorem NothingBegins.keeps {s t : State} (h : NothingBegins s t) : KeepsControl s t := by
  have hdev : ∀ d, d ≠ .stopping → s.device = d → t.device = d := by
    rintro d hd rfl
    exact h.device.resolve_right fun hs => hd hs.1
  refine fun hc => ⟨fun hr => ?_, fun hs => ?_, fun hl => ?_, fun hz => ?_, fun hd e => ?_⟩
  · obtain ⟨hr, hs⟩ := h.reads hr
    rw [hs]
    exact hc.live_read_has_start hr
  · exact hdev _ (by decide) (hc.start_in_stopped (h.start hs))
  · exact hdev _ (by decide) (hc.load_in_loading (h.load hl))
  · exact hdev _ (by decide) (hc.zeroize_in_zeroizing (h.zeroize hz))
  · rcases h.device with ht | ⟨_, ht⟩
    · rw [ht, frozen_congr ht] at hd
      exact h.engines e (hc.engines_free hd e)
    · simp [State.frozen, ht] at hd

theorem Answers.beginsNothing {s : State} {o : Host.Outcome State Fault Refusal}
    (h : Answers (NothingBegins s) o) : Answers (KeepsControl s) o := h.mono fun _ => NothingBegins.keeps

/-- A state at rest: no START, no live station record read and no engine at work, and a load or a zeroize
in its own device state only. -/
theorem ControlLaw.of_rest {t : State} (hr : t.readChannel ≠ .station false) (hs : t.startReq = none)
    (he : t.engines = Vector.replicate 2 none) (hl : t.load.isSome = true → t.device = .loading)
    (hz : t.zeroizeOp.isSome = true → t.device = .zeroizing) : ControlLaw t where
  live_read_has_start h := absurd h hr
  start_in_stopped h := by rw [hs] at h; cases h
  load_in_loading := hl
  zeroize_in_zeroizing := hz
  engines_free _ e := by simp [State.engine, he]

theorem discardRead_ne_live (c : ReadChannel) : discardRead c ≠ .station false := by
  cases c <;> nofun

theorem staleRead_eq_live {l : LaneNo} {c : ReadChannel} (h : staleRead l c = .station false) :
    c = .station false := by
  cases c with
  | station a => exact h
  | free => cases h
  | cell r => cases h

/-! ### Reports -/

theorem enterFaulted_keepsControl {s : State} (h : s.haltable = true) : KeepsControl s (enterFaulted s) := by
  intro hc
  refine .of_rest (discardRead_ne_live _) rfl rfl (fun hl => ?_) (fun hz => ?_)
  · have hd := hc.load_in_loading hl
    simp [State.haltable, hd] at h
  · have hd := hc.zeroize_in_zeroizing hz
    simp [State.haltable, hd] at h

theorem raiseReports_keepsControl (rs : List Report) (s : State) : KeepsControl s (raiseReports rs s) := by
  have hrec (r : Report) (u : State) : NothingBegins u (recordReport r u) :=
    .of_fields rfl rfl rfl rfl rfl rfl
  have hnotice (c : ErrClass) (u : State) : NothingBegins u (raiseErrorNotice c u) :=
    .of_fields rfl rfl rfl rfl rfl rfl
  exact raiseReports_induction (p := ControlLaw) (fun r u => (hrec r u).keeps)
    (fun c u => (hnotice c u).keeps) (fun _ h => enterFaulted_keepsControl h) rs s

theorem raiseReport_keepsControl (r : Report) (s : State) : KeepsControl s (raiseReport r s) :=
  raiseReports_keepsControl [r] s

/-- A report leaves the operation in flight as it stands. -/
theorem raiseReport_zeroizeOp (r : Report) (s : State) : (raiseReport r s).zeroizeOp = s.zeroizeOp :=
  zeroizeOp_congr (by rw [raiseReport_frame])

/-! ### Settling, return entries, halts and drains -/

theorem settle_beginsNothing (l : LaneNo) (s : State) : NothingBegins s (settle l s) := by
  have hd := settle_device l s
  rw [settle_frame]
  exact ⟨hd, id, id, id, fun _ h => h, fun h => ⟨h, rfl⟩⟩

theorem releaseCells_beginsNothing (l : LaneNo) (n : Nat) (s : State) :
    NothingBegins s (releaseCells l n s) :=
  .after (settle_beginsNothing l _) (.of_fields rfl rfl rfl rfl rfl rfl)

theorem makeEntry_beginsNothing (e : ReturnEntry) (s : State) : NothingBegins s (makeEntry e s) := by
  rcases makeEntry_cases e s with ⟨_, h⟩ | ⟨_, h⟩ <;> rw [h]
  · exact .of_fields rfl rfl rfl rfl rfl rfl
  · exact releaseCells_beginsNothing _ _ s

theorem haltLane_beginsNothing (l : LaneNo) (s : State) : NothingBegins s (haltLane l s) :=
  .after (settle_beginsNothing l _)
    ⟨.inl rfl, id, id, id, fun _ h => h, fun h => ⟨staleRead_eq_live h, rfl⟩⟩

theorem haltIfLive_beginsNothing (l : LaneNo) (s : State) : NothingBegins s (haltIfLive l s) := by
  rcases haltIfLive_cases l s with h | ⟨_, h⟩ <;> rw [h]
  · exact .refl s
  · exact haltLane_beginsNothing l s

theorem drainLane_beginsNothing (l : LaneNo) (s : State) : NothingBegins s (drainLane l s) :=
  ⟨.inl rfl, id, id, id, fun _ h => h, fun h => ⟨staleRead_eq_live h, rfl⟩⟩

theorem drainLanes_beginsNothing (ls : List LaneNo) (s : State) :
    NothingBegins s (drainLanes ls s) := by
  induction ls generalizing s with
  | nil => exact .refl s
  | cons l ls ih =>
    rw [drainLanes]
    split_ifs
    · exact (drainLane_beginsNothing l s).trans (ih _)
    · exact ih s

/-! ### Key reads and snapshots -/

theorem remarkSlice_zeroizeOp {s t : State} {n : SliceNo} (h : t.nvmOp = remarkSlice n s.nvmOp) :
    t.zeroizeOp = s.zeroizeOp := by
  rcases remarkSlice_cases n s.nvmOp with e | ⟨r, c, hr, hc, e⟩ <;> rw [e] at h
  · exact zeroizeOp_congr h
  · rw [zeroizeOp_of_commit h rfl, zeroizeOp_of_commit hr hc]

theorem markSliceDirty_beginsNothing (n : SliceNo) (s : State) :
    NothingBegins s (markSliceDirty n s) where
  device := .inl rfl
  start := id
  load := id
  zeroize := by rw [remarkSlice_zeroizeOp (s := s) (n := n) rfl]; exact id
  engines _ h := h
  reads h := ⟨h, rfl⟩

theorem replaceSlot_beginsNothing (n : SliceNo) (k : SlotNo) (x : Slot) (s : State) :
    NothingBegins s (replaceSlot n k x s) := .of_fields rfl rfl rfl rfl rfl rfl

/-- A slot replaced with its slice's dirty mark set. -/
theorem replaceMarked_beginsNothing (n : SliceNo) (k : SlotNo) (x : Slot) (s : State) :
    NothingBegins s (markSliceDirty n (replaceSlot n k x s)) :=
  (replaceSlot_beginsNothing n k x s).trans (markSliceDirty_beginsNothing n _)

theorem makeFaulty_beginsNothing (n : SliceNo) (k : SlotNo) (s : State) :
    NothingBegins s (makeFaulty n k s) := replaceMarked_beginsNothing n k _ s

theorem masterRead_beginsNothing (s : State) (r : PassRequest) (ref : SlotRef) :
    NothingBegins s (masterRead s r ref).state := by
  unfold masterRead
  split
  · exact .refl s
  · exact .refl s
  · exact makeFaulty_beginsNothing _ _ s

theorem findKey_beginsNothing (s : State) (r : PassRequest) : NothingBegins s (findKey s r).state := by
  unfold findKey
  split
  · exact .refl s
  · split
    · exact .of_fields rfl rfl rfl rfl rfl rfl
    · exact masterRead_beginsNothing s r _

theorem readEvidence_beginsNothing (lane : LaneNo) (fuel : Nat) (s : State) :
    NothingBegins s (readEvidence lane fuel s).state := by
  induction fuel generalizing s with
  | zero => exact .refl s
  | succ fuel ih =>
    unfold readEvidence
    split
    · exact .refl s
    · split
      · exact .refl s
      · exact .refl s
      · exact (makeFaulty_beginsNothing 0 _ s).trans (ih _)

theorem decideEvidence_beginsNothing (s : State) (r : PassRequest) :
    NothingBegins s (decideEvidence s r).state := by
  unfold decideEvidence
  split
  · exact readEvidence_beginsNothing _ _ s
  · exact .refl s

theorem snapshotReads_beginsNothing (lane : LaneNo) (n : SliceNo) (ks : List SlotNo) (s : State) :
    NothingBegins s (snapshotReads lane n ks s).1 := by
  induction ks generalizing s with
  | nil => exact .refl s
  | cons k ks ih =>
    unfold snapshotReads
    split
    · split
      · exact ih s
      · exact ih s
      · exact (makeFaulty_beginsNothing n k s).trans (ih _)
    · exact ih s

theorem snapshotState_beginsNothing (lane : LaneNo) (t : CommitTarget) (s : State) :
    NothingBegins s (snapshotState lane t s).1 := by
  cases t with
  | directory => exact .refl s
  | slice n _ => exact snapshotReads_beginsNothing lane n _ s

theorem spendSerial_beginsNothing (s : State) : NothingBegins s (spendSerial s) := by
  unfold spendSerial
  split <;> exact .of_fields rfl rfl rfl rfl rfl rfl

theorem makeOffer_beginsNothing (w : PassWork) (keys : KeyMaterial) (s : State) :
    NothingBegins s (makeOffer w keys s) := by
  unfold makeOffer cacheOffer
  split
  · split <;> exact .of_fields rfl rfl rfl rfl rfl rfl
  · exact .refl s

end Sys2Proof.Machine
end

section
namespace Sys2Proof.Machine

/-! ## Commands and the control law -/

/-! ### Resets, tamper and register writes -/

theorem zeroizeResponse_keepsControl (s : State) : KeepsControl s (zeroizeResponse s) := by
  refine fun _ => .of_rest ?_ rfl rfl nofun fun _ => rfl
  show discardRead (cutNvm s).readChannel ≠ _
  exact discardRead_ne_live _

theorem faultOnlyResponse_keepsControl {s : State} (h : s.device ≠ .zeroizing) :
    KeepsControl s (faultOnlyResponse s) := fun hc =>
  .of_rest (discardRead_ne_live _) rfl rfl nofun fun hz => absurd (hc.zeroize_in_zeroizing hz) h

theorem tamperResponse_keepsControl {s : State} (h : s.device ≠ .zeroizing) :
    KeepsControl s (tamperResponse s) := by
  unfold tamperResponse
  split
  · exact zeroizeResponse_keepsControl s
  · exact faultOnlyResponse_keepsControl h

theorem tamperAssertion_keepsControl (s : State) : KeepsControl s (tamperAssertion s) := by
  have hrec : KeepsControl s (recordReport tamperReport s) :=
    NothingBegins.keeps (.of_fields rfl rfl rfl rfl rfl rfl)
  have hresp : s.device ≠ .zeroizing →
      KeepsControl s (tamperResponse (recordReport tamperReport s)) := fun h =>
    hrec.trans (tamperResponse_keepsControl h)
  unfold tamperAssertion
  rw [raiseReport_tamper]
  split
  · exact .refl s
  · exact hrec
  · next hd =>
    split_ifs
    · exact hrec
    · exact hresp (by rw [hd]; decide)
  all_goals next hd => exact hresp (by rw [hd]; decide)

theorem execTamperAssert_keepsControl (s : State) : Answers (KeepsControl s) (execTamperAssert s) := by
  refine .next ?_
  split_ifs
  · exact .refl s
  · exact .after (tamperAssertion_keepsControl _)
      (NothingBegins.keeps (.of_fields rfl rfl rfl rfl rfl rfl))

theorem execColdReset_keepsControl (s : State) : Answers (KeepsControl s) (execColdReset s) := by
  have h : KeepsControl s (coldResetState s) := fun _ => .of_rest nofun rfl rfl (fun _ => rfl) nofun
  refine .next ?_
  split_ifs
  · exact h.trans (tamperAssertion_keepsControl _)
  · exact h

/-- The record that `commitOp` gives is the one in flight. -/
theorem nvmOp_of_commitOp {s : State} {r : NvmRecord} {c : CommitOp} (h : s.commitOp = some (r, c)) :
    s.nvmOp = some r ∧ r.op = .commit c := by
  unfold State.commitOp at h
  split at h
  · next hr =>
    split at h <;> cases h
    next hc => exact ⟨hr, hc⟩
  · cases h

/-- Without its cell reference the operation in flight is a zeroize if it was one. -/
theorem dropCellRef_zeroizeOp {s t : State} (h : t.nvmOp = dropCellRef s.nvmOp) :
    t.zeroizeOp = s.zeroizeOp := by
  cases hc : s.commitOp with
  | none => exact zeroizeOp_congr (h.trans (dropCellRef_of_no_commit hc))
  | some rc =>
    obtain ⟨r, c⟩ := rc
    obtain ⟨hr, hop⟩ := nvmOp_of_commitOp hc
    rw [dropCellRef_of_commitOp hc] at h
    rw [zeroizeOp_of_commit h rfl, zeroizeOp_of_commit hr hop]

theorem softResetRequest_keepsControl (s : State) : KeepsControl s (softResetRequest s) := by
  unfold softResetRequest
  split_ifs with h
  · intro hc
    refine .of_rest (discardRead_ne_live _) rfl rfl (fun hl => ?_) (fun hz => ?_)
    · have hd := hc.load_in_loading hl
      simp [State.softResettable, hd] at h
    · rw [dropCellRef_zeroizeOp (s := s) rfl] at hz
      have hd := hc.zeroize_in_zeroizing hz
      simp [State.softResettable, hd] at h
  · exact .refl s

theorem startRequest_keepsControl (s : State) : KeepsControl s (startRequest s) := by
  unfold startRequest
  split
  · next hd =>
    split_ifs
    · exact .refl s
    · exact fun hc =>
        ⟨fun _ => rfl, fun _ => hd, hc.load_in_loading, hc.zeroize_in_zeroizing, hc.engines_free⟩
    · exact NothingBegins.keeps (.of_fields rfl rfl rfl rfl rfl rfl)
  all_goals exact NothingBegins.keeps (.of_fields rfl rfl rfl rfl rfl rfl)

theorem endStopping_beginsNothing (s : State) : NothingBegins s (endStopping s) := by
  unfold endStopping
  split_ifs with h
  · exact ⟨.inr ⟨h.1, rfl⟩, id, id, id, fun _ h => h, fun h => ⟨h, rfl⟩⟩
  · exact .refl s

/-- A RUNNING device has no START, load or zeroize, so it may enter STOPPING. -/
theorem enterStopping_keepsControl {s : State} (h : s.device = .running) :
    KeepsControl s { s with device := .stopping } := fun hc => by
  refine ⟨hc.live_read_has_start, fun hs => ?_, fun hl => ?_, fun hz => ?_, nofun⟩
  · have hd := hc.start_in_stopped hs
    rw [h] at hd; cases hd
  · have hd := hc.load_in_loading hl
    rw [h] at hd; cases hd
  · have hd := hc.zeroize_in_zeroizing hz
    rw [h] at hd; cases hd

theorem stopRequest_keepsControl (s : State) : KeepsControl s (stopRequest s) := by
  unfold stopRequest
  split_ifs with h
  · refine (drainLanes_beginsNothing allLanes s).keeps.trans
      (.trans (enterStopping_keepsControl ?_) (endStopping_beginsNothing _).keeps)
    rw [drainLanes_frame]
    exact h
  · exact .refl s

theorem controlWrite_keepsControl (w : Word) (s : State) : KeepsControl s (controlWrite w s) := by
  have hlock : KeepsControl s (if w.getLsbD 3 then { s with lock := true } else s) := by
    split_ifs
    · exact NothingBegins.keeps (.of_fields rfl rfl rfl rfl rfl rfl)
    · exact .refl s
  unfold controlWrite
  split
  · exact softResetRequest_keepsControl s
  · dsimp only
    split
    · exact hlock.trans (startRequest_keepsControl _)
    · split
      · exact hlock.trans (stopRequest_keepsControl _)
      · exact hlock

theorem stationBaseWrite_beginsNothing (half : StationHalf) (v : Word) (s : State) :
    NothingBegins s (stationBaseWrite half v s) := by
  unfold stationBaseWrite
  split
  · exact .refl s
  · split <;> exact .of_fields rfl rfl rfl rfl rfl rfl

theorem postWrite_beginsNothing (v : Word) (s : State) : NothingBegins s (postWrite v s) := by
  unfold postWrite
  split_ifs <;> exact .of_fields rfl rfl rfl rfl rfl rfl

theorem registerWrite_keepsControl (offset width : Nat) (v : Word) (s : State) :
    KeepsControl s (registerWrite offset width v s) := by
  unfold registerWrite
  split_ifs
  · split
    · exact controlWrite_keepsControl v s
    · exact (stationBaseWrite_beginsNothing .lo v s).keeps
    · exact (stationBaseWrite_beginsNothing .hi v s).keeps
    · exact (postWrite_beginsNothing v s).keeps
    · exact NothingBegins.keeps (.of_fields rfl rfl rfl rfl rfl rfl)
    · exact NothingBegins.keeps (.of_fields rfl rfl rfl rfl rfl rfl)
    · exact .refl s
  · exact .refl s

/-! ### Reads -/

theorem execStationRecordReadIssue_keepsControl (s : State) :
    Answers (KeepsControl s) (execStationRecordReadIssue s) := by
  unfold execStationRecordReadIssue
  split
  · next r hr _ =>
    split_ifs
    · exact .next (.refl s)
    · exact .next fun hc => ⟨fun _ => rfl, fun _ => hc.start_in_stopped (by rw [hr]; rfl),
        hc.load_in_loading, hc.zeroize_in_zeroizing, hc.engines_free⟩
  · exact .next (.refl s)

/-- The read channel becomes free, and a START in progress may end with it. -/
theorem NothingBegins.of_freeRead {s t : State} (hd : t.device = s.device)
    (hs : t.startReq = s.startReq ∨ t.startReq = none) (hl : t.load = s.load) (hn : t.nvmOp = s.nvmOp)
    (he : t.engines = s.engines) (hr : t.readChannel = .free) : NothingBegins s t where
  device := .inl hd
  start h := by
    rcases hs with hs | hs <;> rw [hs] at h
    · exact h
    · cases h
  load := by rw [hl]; exact id
  zeroize := by rw [zeroizeOp_congr hn]; exact id
  engines e h := by rw [State.engine_congr he, h]
  reads h := by rw [hr] at h; cases h

theorem endDiscarded_keepsControl (r : ReadEnd) (l : Option LaneNo) (s : State) :
    KeepsControl s (endDiscarded r l s) := by
  unfold endDiscarded
  split
  · exact raiseReport_keepsControl _ s
  · exact .refl s

theorem freeRead_keepsControl (s : State) : KeepsControl s { s with readChannel := .free } :=
  NothingBegins.keeps (.of_freeRead rfl (.inl rfl) rfl rfl rfl rfl)

/-- A START that ends OK leaves STOPPED, where neither a load nor a zeroize runs. -/
theorem applyStation_keepsControl {s : State} (b : Bytes) (h : s.readChannel = .station false) :
    KeepsControl s (applyStation b { s with readChannel := .free, startReq := none }) := by
  intro hc
  have hd := hc.start_in_stopped (hc.live_read_has_start h)
  refine ⟨nofun, nofun, fun hl => ?_, fun hz => ?_, nofun⟩
  · have := hc.load_in_loading hl
    rw [hd] at this; cases this
  · have := hc.zeroize_in_zeroizing hz
    rw [hd] at this; cases this

theorem endStart_keepsControl (r : ReadEnd) {s : State} (h : s.readChannel = .station false) :
    KeepsControl s (endStart r { s with readChannel := .free }) := by
  unfold endStart
  split
  · exact .after (raiseReport_keepsControl _ _)
      (NothingBegins.keeps (.of_freeRead rfl (.inr rfl) rfl rfl rfl rfl))
  · split_ifs
    · exact applyStation_keepsControl _ h
    · exact NothingBegins.keeps (.of_freeRead rfl (.inr rfl) rfl rfl rfl rfl)

theorem execStationRecordReadEnd_keepsControl (r : ReadEnd) (s : State) :
    Answers (KeepsControl s) (execStationRecordReadEnd r s) := by
  unfold execStationRecordReadEnd
  split
  · next a ha =>
    refine .next ?_
    cases a with
    | true => exact (freeRead_keepsControl s).trans (endDiscarded_keepsControl r none _)
    | false => exact endStart_keepsControl r ha
  · exact .next (.refl s)
  · exact .next (.refl s)

theorem execCellReadIssue_beginsNothing (s : State) :
    Answers (NothingBegins s) (execCellReadIssue s) := by
  unfold execCellReadIssue
  split
  · exact .next ⟨.inl rfl, id, id, id, fun _ h => h, nofun⟩
  · exact .next (.refl s)

theorem takeToQueue_beginsNothing (l : LaneNo) (e : ReturnEntry) (s : State) :
    NothingBegins s (takeToQueue l e s) :=
  .after (makeEntry_beginsNothing e _) (.of_fields rfl rfl rfl rfl rfl rfl)

theorem takeExt_beginsNothing (l : LaneNo) (c : TakenCell) (s : State) :
    NothingBegins s (takeExt l c s) := by
  unfold takeExt
  split_ifs
  · exact .of_fields rfl rfl rfl rfl rfl rfl
  · exact takeToQueue_beginsNothing l _ s

theorem takePass_beginsNothing (l : LaneNo) (c : TakenCell) (take : Word) (s : State) :
    NothingBegins s (takePass l c take s) := by
  unfold takePass
  dsimp only
  split_ifs
  · exact takeToQueue_beginsNothing l _ s
  · unfold queueRequest
    split_ifs
    · exact .after (makeEntry_beginsNothing _ _) (.of_fields rfl rfl rfl rfl rfl rfl)
    · exact .of_fields rfl rfl rfl rfl rfl rfl

theorem takeService_beginsNothing (l : LaneNo) (c : TakenCell) (kind : ServiceKind) (take : Word)
    (s : State) : NothingBegins s (takeService l c kind take s) := by
  unfold takeService
  split_ifs
  · exact takeToQueue_beginsNothing l _ s
  · exact .of_fields rfl rfl rfl rfl rfl rfl
  · exact takeToQueue_beginsNothing l _ s

theorem takeCell_beginsNothing (l : LaneNo) (c : TakenCell) (s : State) :
    NothingBegins s (takeCell l c s) := by
  have hb : NothingBegins s (takeBasics l s) := .of_fields rfl rfl rfl rfl rfl rfl
  unfold takeCell
  split_ifs
  · exact hb.trans (takePass_beginsNothing _ _ _ _)
  · exact hb.trans (takeExt_beginsNothing _ _ _)
  · split
    · exact hb.trans (takeService_beginsNothing _ _ _ _ _)
    · exact hb.trans (takeToQueue_beginsNothing _ _ _)

theorem endCellRead_keepsControl (x : CellRead) (r : ReadEnd) (s : State) :
    KeepsControl s (endCellRead x r s) := by
  unfold endCellRead
  split_ifs
  · exact endDiscarded_keepsControl _ _ s
  · split
    · exact .refl s
    · exact (haltLane_beginsNothing _ s).keeps.trans (raiseReport_keepsControl _ _)
  · split
    · exact .refl s
    · exact raiseReport_keepsControl _ s
  · split
    · unfold scanCell
      split_ifs
      · exact (takeCell_beginsNothing _ _ s).keeps
      · exact NothingBegins.keeps (.of_fields rfl rfl rfl rfl rfl rfl)
    · exact (haltLane_beginsNothing _ s).keeps.trans (raiseReport_keepsControl _ _)

theorem execCellReadEnd_keepsControl (r : ReadEnd) (s : State) :
    Answers (KeepsControl s) (execCellReadEnd r s) := by
  unfold execCellReadEnd
  split
  · exact .next ((freeRead_keepsControl s).trans (endCellRead_keepsControl _ _ _))
  · exact .next (.refl s)
  · exact .next (.refl s)

theorem execDeadlineExpiry_beginsNothing (l : LaneNo) (take : Word) (s : State) :
    Answers (NothingBegins s) (execDeadlineExpiry l take s) := by
  unfold execDeadlineExpiry
  split_ifs
  · exact .next (.refl s)
  · split
    · exact .next (.refl s)
    · exact .next (.after (makeEntry_beginsNothing _ _) (.of_fields rfl rfl rfl rfl rfl rfl))

/-! ### The write channel -/

theorem execWriteChannelIssue_beginsNothing (s : State) :
    Answers (NothingBegins s) (execWriteChannelIssue s) := by
  unfold execWriteChannelIssue
  split
  · exact .next (.refl s)
  · split
    · next n rest _ =>
      refine .next ?_
      cases n <;> exact .of_fields rfl rfl rfl rfl rfl rfl
    · split
      · split
        · split
          · refine .next ?_
            unfold issueCellWrite
            split <;> exact .of_fields rfl rfl rfl rfl rfl rfl
          · exact .next (.refl s)
        · exact .next (.refl s)
      · exact .next (.refl s)

theorem landWrite_beginsNothing (w : BusWrite) (s : State) : NothingBegins s (landWrite w s) :=
  .of_fields rfl rfl rfl rfl rfl rfl

theorem failReturnWrite_keepsControl (w : BusWrite) (s : State) :
    KeepsControl s (failReturnWrite w { s with writeChannel := none }) := by
  have hw : KeepsControl s { s with writeChannel := none } :=
    NothingBegins.keeps (.of_fields rfl rfl rfl rfl rfl rfl)
  unfold failReturnWrite
  refine hw.trans (.after (raiseReport_keepsControl _ _) ?_)
  split
  · split_ifs
    · exact (haltIfLive_beginsNothing _ _).keeps
    · exact .refl _
  · exact .refl _

theorem execReturnFirstWriteEnd_keepsControl (r : BusEnd) (s : State) :
    Answers (KeepsControl s) (execReturnFirstWriteEnd r s) := by
  unfold execReturnFirstWriteEnd
  split
  · split
    · split
      · refine .next (NothingBegins.keeps ?_)
        split
        · exact .of_fields rfl rfl rfl rfl rfl rfl
        · exact landWrite_beginsNothing _ s
      · exact .next (failReturnWrite_keepsControl _ s)
    · exact .next (.refl s)
  · exact .next (.refl s)

theorem returnCell_beginsNothing (s : State) : NothingBegins s (returnCell s) := by
  unfold returnCell
  split
  · exact .refl s
  · split
    · exact .refl s
    · refine .after (releaseCells_beginsNothing _ _ _) ?_
      rw [raiseLaneNotice_frame]
      exact .of_fields rfl rfl rfl rfl rfl rfl
    · exact .after (releaseCells_beginsNothing _ _ _) (.of_fields rfl rfl rfl rfl rfl rfl)

theorem execReturnOwnWriteEnd_keepsControl (r : BusEnd) (s : State) :
    Answers (KeepsControl s) (execReturnOwnWriteEnd r s) := by
  unfold execReturnOwnWriteEnd
  split
  · split
    · split
      · refine .next (NothingBegins.keeps ?_)
        split
        · exact (landWrite_beginsNothing _ s).trans (returnCell_beginsNothing _)
        · exact landWrite_beginsNothing _ s
      · exact .next (failReturnWrite_keepsControl _ s)
    · exact .next (.refl s)
  · exact .next (.refl s)

theorem endNoticeWrite_keepsControl (w : BusWrite) (r : BusEnd) (s : State) :
    KeepsControl s (endNoticeWrite w r s) := by
  unfold endNoticeWrite
  split
  · exact (landWrite_beginsNothing w s).keeps
  · exact .after (raiseReport_keepsControl _ _) (NothingBegins.keeps (.of_fields rfl rfl rfl rfl rfl rfl))

theorem execNoticeWriteEnd_keepsControl (r : BusEnd) (s : State) :
    Answers (KeepsControl s) (execNoticeWriteEnd r s) := by
  unfold execNoticeWriteEnd
  split
  · split
    · exact .next (endNoticeWrite_keepsControl _ r s)
    · exact .next (.refl s)
  · exact .next (.refl s)

theorem execErrorNoticeWriteEnd_keepsControl (r : BusEnd) (s : State) :
    Answers (KeepsControl s) (execErrorNoticeWriteEnd r s) := by
  unfold execErrorNoticeWriteEnd
  split
  · split
    · exact .next (endNoticeWrite_keepsControl _ r s)
    · exact .next (.refl s)
  · exact .next (.refl s)

end Sys2Proof.Machine
end

section
namespace Sys2Proof.Machine

/-! ### Dispatch and engines -/

/-- An engine is set to work where engines may work, as an active device and a busy engine show. -/
theorem setEngine_keepsControl {s : State} {e : EngineNo} (w : Option EngineWork)
    (h : s.active = true ∨ s.engine e ≠ none) : KeepsControl s (s.setEngine e w) := by
  refine fun hc => ⟨hc.live_read_has_start, hc.start_in_stopped, hc.load_in_loading,
    hc.zeroize_in_zeroizing, fun hd => ?_⟩
  rcases h with h | h
  · rcases hd with hd | hd
    · rw [State.setEngine_device] at hd
      simp [State.active, hd] at h
    · rw [not_active_of_frozen (s := s) hd] at h; cases h
  · exact absurd (hc.engines_free hd e) h

theorem freeEngine_beginsNothing (e : EngineNo) (s : State) : NothingBegins s (s.setEngine e none) :=
  ⟨.inl rfl, id, id, id, fun f h => by rw [State.engine_setEngine]; split_ifs <;> simp [h],
    fun h => ⟨h, rfl⟩⟩

/-- The device is active while it keeps its state. -/
theorem active_congr {s t : State} (h : t.device = s.device) : t.active = s.active := by
  simp only [State.active, h]

theorem spendSerial_device (s : State) : (spendSerial s).device = s.device := by
  unfold spendSerial; split <;> rfl

theorem runRequest_keepsControl (e : EngineNo) (w : PassWork) {s : State} (h : s.active = true) :
    KeepsControl s (runRequest e w s) := by
  have hs : NothingBegins s (if w.serial.isSome then spendSerial s else s)
      ∧ (if w.serial.isSome then spendSerial s else s).device = s.device := by
    split_ifs
    · exact ⟨spendSerial_beginsNothing s, spendSerial_device s⟩
    · exact ⟨.refl s, rfl⟩
  obtain ⟨hq, hd⟩ := hs
  unfold runRequest
  dsimp only
  split
  · exact (hq.trans (makeEntry_beginsNothing _ _)).keeps
  · exact hq.keeps.trans (setEngine_keepsControl _ (.inl ((active_congr hd).trans h)))

theorem dispatchRequest_keepsControl (e : EngineNo) (r : PassRequest) {s : State}
    (h : s.active = true) : KeepsControl s (dispatchRequest e r s) := by
  have hk : NothingBegins s (decideEvidence (findKey (unqueue r s) r).state r).state :=
    .after (decideEvidence_beginsNothing _ r) (.after (findKey_beginsNothing _ r)
      (.of_fields rfl rfl rfl rfl rfl rfl))
  have hd : (decideEvidence (findKey (unqueue r s) r).state r).state.device = s.device :=
    ((findKey_keyStoreOnly (unqueue r s) r).trans (decideEvidence_keyStoreOnly _ r)).device
  unfold dispatchRequest
  dsimp only
  refine .after (raiseReports_keepsControl _ _) (hk.keeps.trans ?_)
  split
  · exact (makeEntry_beginsNothing _ _).keeps
  · exact runRequest_keepsControl _ _ ((active_congr hd).trans h)

theorem execDispatch_keepsControl (s : State) : Answers (KeepsControl s) (execDispatch s) := by
  unfold execDispatch
  split
  · next ha _ =>
    split
    · exact .next (dispatchRequest_keepsControl _ _ ha)
    · split
      · split_ifs
        · exact .next ((setEngine_keepsControl _ (.inl ha)).trans
            (NothingBegins.keeps (.of_fields rfl rfl rfl rfl rfl rfl)))
        · exact .next (.refl s)
      · exact .next (.refl s)
  · exact .next (.refl s)

/-- Work found at a stage keeps its engine busy. -/
theorem engine_of_workAt {s : State} {e : EngineNo} {st : Stage} {w : PassWork}
    (h : s.workAt e st = some w) : s.engine e ≠ none := by
  intro hn
  rw [workAt_of_free hn] at h
  cases h

theorem nextStage_keepsControl {e : EngineNo} (w : PassWork) {s : State} (h : s.engine e ≠ none) :
    KeepsControl s (nextStage e w s) := by
  unfold nextStage
  split
  · exact ((freeEngine_beginsNothing e s).trans (makeEntry_beginsNothing _ _)).keeps
  · exact setEngine_keepsControl _ (.inr h)

theorem runTo_beginsNothing (s : State) (t : Word) : NothingBegins s (s.runTo t) :=
  .of_fields rfl rfl rfl rfl rfl rfl

/-- The current stage of an engine's work ends when GT has run on to its end. -/
theorem stageEnds_keepsControl {s : State} {e : EngineNo} {st : Stage} {w : PassWork}
    (h : s.workAt e st = some w) (u : PassWork) :
    KeepsControl s (nextStage e u (s.runTo w.stageEnd)) :=
  (runTo_beginsNothing s _).keeps.trans (nextStage_keepsControl u (engine_of_workAt h))

theorem makeOffer_engine (w : PassWork) (keys : KeyMaterial) (s : State) (e : EngineNo) :
    (makeOffer w keys s).engine e = s.engine e := by
  unfold makeOffer cacheOffer
  repeat' split
  all_goals rfl

theorem execDeriveComplete_keepsControl (e : EngineNo) (s : State) :
    Answers (KeepsControl s) (execDeriveComplete e s) := by
  unfold execDeriveComplete
  split
  · exact .next (.refl s)
  · next hw =>
    refine .next (((runTo_beginsNothing s _).trans (makeOffer_beginsNothing _ _ _)).keeps.trans
      (nextStage_keepsControl _ ?_))
    rw [makeOffer_engine]
    exact engine_of_workAt hw

theorem execVerifyComplete_keepsControl (e : EngineNo) (s : State) :
    Answers (KeepsControl s) (execVerifyComplete e s) := by
  unfold execVerifyComplete
  split
  · exact .next (.refl s)
  · next hw => exact .next (stageEnds_keepsControl hw _)

theorem execWriteComplete_keepsControl (e : EngineNo) (s : State) :
    Answers (KeepsControl s) (execWriteComplete e s) := by
  unfold execWriteComplete
  split
  · exact .next (.refl s)
  · next hw => exact .next (stageEnds_keepsControl hw _)

theorem execEvidenceComplete_keepsControl (e : EngineNo) (s : State) :
    Answers (KeepsControl s) (execEvidenceComplete e s) := by
  unfold execEvidenceComplete
  split
  · exact .next (.refl s)
  · next hw => exact .next (stageEnds_keepsControl hw _)

/-! ### Service requests -/

theorem popHead_beginsNothing (s : State) : NothingBegins s (popHead s) :=
  .of_fields rfl rfl rfl rfl rfl rfl

theorem becomeReady_beginsNothing (s : State) : NothingBegins s (becomeReady s) :=
  .of_fields rfl rfl rfl rfl rfl rfl

/-- The head completes after a change in which nothing begins. -/
theorem finish_beginsNothing {h : ServiceRequest} {st : Status} {fields : List ResultField}
    {s u : State} (hu : NothingBegins s u) : NothingBegins s (finish h st fields u) :=
  hu.trans (.after (makeEntry_beginsNothing _ _) (popHead_beginsNothing u))

theorem runIssuerAdd_beginsNothing (h : ServiceRequest) (s : State) :
    NothingBegins s (runIssuerAdd h s) := by
  unfold runIssuerAdd
  dsimp only
  repeat' split
  all_goals exact finish_beginsNothing (.of_fields rfl rfl rfl rfl rfl rfl)

theorem runIssuerRemove_beginsNothing (h : ServiceRequest) (s : State) :
    NothingBegins s (runIssuerRemove h s) := by
  unfold runIssuerRemove
  dsimp only
  repeat' split
  all_goals exact finish_beginsNothing (.of_fields rfl rfl rfl rfl rfl rfl)

theorem runIssuerLock_beginsNothing (h : ServiceRequest) (s : State) :
    NothingBegins s (runIssuerLock h s) := by
  unfold runIssuerLock
  split
  all_goals exact finish_beginsNothing (.of_fields rfl rfl rfl rfl rfl rfl)

theorem runKeyStage_beginsNothing (h : ServiceRequest) (s : State) :
    NothingBegins s (runKeyStage h s) := by
  unfold runKeyStage
  dsimp only
  split
  · exact finish_beginsNothing (.refl s)
  · split_ifs
    on_goal 7 => exact becomeReady_beginsNothing s
    all_goals exact finish_beginsNothing (.refl s)

theorem runKeyRevoke_beginsNothing (h : ServiceRequest) (s : State) :
    NothingBegins s (runKeyRevoke h s) := by
  unfold runKeyRevoke
  dsimp only
  split
  · exact finish_beginsNothing (.refl s)
  · split_ifs
    · exact finish_beginsNothing (.refl s)
    · exact finish_beginsNothing (.refl s)
    · split
      · exact finish_beginsNothing (.refl s)
      · refine finish_beginsNothing ?_
        split_ifs
        · exact replaceMarked_beginsNothing _ _ _ s
        · exact .refl s

theorem eraseFaulty_beginsNothing (n : SliceNo) (k : SlotNo) (s : State) :
    NothingBegins s (eraseFaulty n k s) :=
  .after (markSliceDirty_beginsNothing n _) (.of_fields rfl rfl rfl rfl rfl rfl)

theorem eraseMatched_beginsNothing (h : ServiceRequest) (n : SliceNo) (k : SlotNo) (s : State) :
    NothingBegins s (eraseMatched h n k s) := by
  unfold eraseMatched
  dsimp only
  split
  on_goal 1 => exact finish_beginsNothing (.refl s)
  on_goal 1 => exact finish_beginsNothing (.refl s)
  on_goal 4 => exact finish_beginsNothing (eraseFaulty_beginsNothing n k s)
  on_goal 4 => exact finish_beginsNothing (eraseFaulty_beginsNothing n k s)
  all_goals exact finish_beginsNothing (replaceMarked_beginsNothing n k _ s)

theorem runKeyErase_beginsNothing (h : ServiceRequest) (s : State) :
    NothingBegins s (runKeyErase h s) := by
  unfold runKeyErase
  dsimp only
  split
  · exact finish_beginsNothing (.refl s)
  · split_ifs
    · exact finish_beginsNothing (.refl s)
    · exact finish_beginsNothing (.refl s)
    · split
      · exact eraseMatched_beginsNothing h _ _ s
      · split
        · exact finish_beginsNothing (eraseFaulty_beginsNothing _ _ s)
        · exact finish_beginsNothing (.refl s)

theorem daySweep_beginsNothing (d : Half) (s : State) :
    NothingBegins s (markDirectoryDirty (daySweep d s)) := by
  unfold daySweep markDirectoryDirty
  exact .of_fields rfl rfl rfl rfl rfl rfl

theorem runSetDay_beginsNothing (h : ServiceRequest) (s : State) :
    NothingBegins s (runSetDay h s) := by
  unfold runSetDay
  dsimp only
  split
  · exact finish_beginsNothing (.refl s)
  · split
    · exact finish_beginsNothing (.refl s)
    · split
      · exact finish_beginsNothing (.refl s)
      · exact finish_beginsNothing (daySweep_beginsNothing _ s)

theorem runTransportReplace_beginsNothing (h : ServiceRequest) (s : State) :
    NothingBegins s (runTransportReplace h s) := by
  unfold runTransportReplace
  split_ifs
  · exact finish_beginsNothing (.refl s)
  · exact finish_beginsNothing (.refl s)
  · exact becomeReady_beginsNothing s

theorem startCommit_keepsControl (h : ServiceRequest) (t : CommitTarget) (s : State) :
    KeepsControl s (startCommit h t s) := by
  unfold startCommit
  refine .after (raiseReports_keepsControl _ _)
    (.after (NothingBegins.keeps ?_)
      ((snapshotState_beginsNothing h.lane t s).trans (popHead_beginsNothing _)).keeps)
  exact .of_record rfl rfl rfl (zeroizeOp_of_commit rfl rfl) rfl rfl

theorem commitTarget_keepsControl (h : ServiceRequest) (t : CommitTarget) (s : State) :
    KeepsControl s (commitTarget h t s) := by
  unfold commitTarget
  split_ifs
  · exact startCommit_keepsControl h t s
  · exact (finish_beginsNothing (.refl s)).keeps

theorem runCommit_keepsControl (h : ServiceRequest) (s : State) : KeepsControl s (runCommit h s) := by
  unfold runCommit
  dsimp only
  split_ifs
  · exact (finish_beginsNothing (.refl s)).keeps
  · exact (finish_beginsNothing (.refl s)).keeps
  · exact commitTarget_keepsControl h _ s
  · split
    · exact (finish_beginsNothing (.refl s)).keeps
    · exact commitTarget_keepsControl h _ s

theorem runLaneStop_beginsNothing (h : ServiceRequest) (s : State) :
    NothingBegins s (runLaneStop h s) := by
  unfold runLaneStop
  split_ifs with hl
  · dsimp only
    split_ifs
    · exact (popHead_beginsNothing s).trans
        (.after (makeEntry_beginsNothing _ _) (drainLane_beginsNothing _ _))
    · exact finish_beginsNothing (.refl s)
  · exact finish_beginsNothing (.refl s)

theorem runLaneResume_beginsNothing (h : ServiceRequest) (s : State) :
    NothingBegins s (runLaneResume h s) := by
  unfold runLaneResume
  dsimp only
  split_ifs
  on_goal 4 => exact finish_beginsNothing (.of_fields rfl rfl rfl rfl rfl rfl)
  all_goals exact finish_beginsNothing (.refl s)

theorem onHead_keepsControl (kind : ServiceKind) {f : ServiceRequest → State → State} {s : State}
    (hrun : ∀ h, KeepsControl s (f h s)) : Answers (KeepsControl s) (.next (onHead kind f s)) := by
  refine .next ?_
  rcases onHead_cases kind f s with e | ⟨h, _, _, _, _, _, e⟩ <;> rw [e]
  · exact .refl s
  · exact hrun h

theorem completeUnwrap_beginsNothing (w : ServiceWork) (s : State) :
    NothingBegins s (completeUnwrap w s) := by
  unfold completeUnwrap
  split
  · exact .refl s
  · split_ifs
    · split
      · unfold completeStage
        split
        · exact finish_beginsNothing (.refl s)
        · split
          · exact finish_beginsNothing (.refl s)
          · split_ifs
            · exact finish_beginsNothing (replaceMarked_beginsNothing _ _ _ s)
            · exact finish_beginsNothing (.refl s)
      · unfold completeReplace
        split_ifs <;> exact finish_beginsNothing (.of_fields rfl rfl rfl rfl rfl rfl)
      all_goals exact .refl s
    · exact .refl s

theorem execServiceUnwrapComplete_beginsNothing (e : EngineNo) (s : State) :
    Answers (NothingBegins s) (execServiceUnwrapComplete e s) := by
  unfold execServiceUnwrapComplete
  split
  · exact .next (.refl s)
  · exact .next (.after (completeUnwrap_beginsNothing _ _)
      (.after (freeEngine_beginsNothing e _) (runTo_beginsNothing s _)))

/-! ### COMMIT in flight -/

theorem commitStep_beginsNothing (r : NvmRecord) (c : CommitOp) (step : CommitStep) (t : Nat)
    (s : State) : NothingBegins s (commitStep r c step t s) :=
  .of_record rfl rfl rfl (zeroizeOp_of_commit rfl rfl) rfl rfl

theorem discardRecord_beginsNothing (s : State) : NothingBegins s (discardRecord s) :=
  .of_record rfl rfl rfl rfl rfl rfl

theorem commitEntry_beginsNothing (c : CommitOp) (st : Status) (fields : List ResultField) (s : State) :
    NothingBegins s (commitEntry c st fields s) := by
  unfold commitEntry
  split
  · exact .refl s
  · exact makeEntry_beginsNothing _ s

theorem clearMark_beginsNothing (c : CommitOp) (s : State) : NothingBegins s (clearMark c s) := by
  unfold clearMark
  split_ifs
  · exact .refl s
  · split <;> exact .of_fields rfl rfl rfl rfl rfl rfl

theorem execCommitEraseEnd_beginsNothing (x : NvmEnd) (s : State) :
    Answers (NothingBegins s) (execCommitEraseEnd x s) := by
  unfold execCommitEraseEnd
  split
  · split_ifs
    · cases x with
      | success =>
        exact .next (.after (commitStep_beginsNothing _ _ _ _ _) (.of_fields rfl rfl rfl rfl rfl rfl))
      | failure =>
        exact .next (.after (commitStep_beginsNothing _ _ _ _ _) (.of_fields rfl rfl rfl rfl rfl rfl))
    · exact .next (.refl s)
  · exact .next (.refl s)

theorem programSucceeds_beginsNothing (r : NvmRecord) (c : CommitOp) (k : Nat) (s : State) :
    NothingBegins s (programSucceeds r c k s) := by
  unfold programSucceeds
  dsimp only
  split_ifs
  · exact .after (discardRecord_beginsNothing _) (.after (commitEntry_beginsNothing _ _ _ _)
      (.after (clearMark_beginsNothing c _) (.of_fields rfl rfl rfl rfl rfl rfl)))
  · exact .after (commitStep_beginsNothing _ _ _ _ _) (.of_fields rfl rfl rfl rfl rfl rfl)

theorem execCommitWordProgramEnd_beginsNothing (x : NvmEnd) (s : State) :
    Answers (NothingBegins s) (execCommitWordProgramEnd x s) := by
  unfold execCommitWordProgramEnd
  split
  · split
    · cases x with
      | success => exact .next (.after (programSucceeds_beginsNothing _ _ _ _) (runTo_beginsNothing s _))
      | failure =>
        exact .next (.after (commitStep_beginsNothing _ _ _ _ _) (.of_fields rfl rfl rfl rfl rfl rfl))
    · exact .next (.refl s)
    · exact .next (.refl s)
  · exact .next (.refl s)

theorem spoilEnds_keepsControl (r : NvmRecord) (c : CommitOp) (f : Option Nat) (s : State) :
    KeepsControl s (spoilEnds r c f s) :=
  (raiseReport_keepsControl _ s).trans
    (NothingBegins.keeps (.after (discardRecord_beginsNothing _) (commitEntry_beginsNothing _ _ _ _)))

theorem execSpoilProgramEnd_keepsControl (x : NvmEnd) (s : State) :
    Answers (KeepsControl s) (execSpoilProgramEnd x s) := by
  unfold execSpoilProgramEnd
  split
  · split
    · refine .next (.after (spoilEnds_keepsControl _ _ _ _) (NothingBegins.keeps ?_))
      cases x <;> exact .of_fields rfl rfl rfl rfl rfl rfl
    · exact .next (.refl s)
    · exact .next (.refl s)
  · exact .next (.refl s)

/-! ### The load -/

/-- A load in progress goes on. -/
theorem loadNext_beginsNothing (step : LoadStep) (t : Nat) {s : State} (h : s.load.isSome = true) :
    NothingBegins s (loadNext step t s) :=
  ⟨.inl rfl, id, fun _ => h, id, fun _ h => h, fun h => ⟨h, rfl⟩⟩

/-- The end of the load leaves LOADING, where neither a START nor a zeroize runs. -/
theorem loadEnds_keepsControl {s : State} (h : s.load.isSome = true) : KeepsControl s (loadEnds s) := by
  intro hc
  have hd := hc.load_in_loading h
  refine ⟨hc.live_read_has_start, fun _ => rfl, nofun, fun hz => ?_, nofun⟩
  have := hc.zeroize_in_zeroizing hz
  rw [hd] at this; cases this

theorem loadNextSlice_keepsControl (last : Option SliceNo) {s : State} (h : s.load.isSome = true) :
    KeepsControl s (loadNextSlice last s) := by
  unfold loadNextSlice
  split
  · exact (loadNext_beginsNothing _ _ h).keeps
  · exact loadEnds_keepsControl h

theorem loadNextKey_keepsControl (n : SliceNo) (last : Option SlotNo) {s : State}
    (h : s.load.isSome = true) : KeepsControl s (loadNextKey n last s) := by
  unfold loadNextKey
  split
  · exact (loadNext_beginsNothing _ _ h).keeps
  · exact loadNextSlice_keepsControl _ h

/-- The load finds the zeroize mark set and goes over into the zeroize. -/
theorem zeroizeFromLoad_keepsControl {s : State} (h : s.load.isSome = true) :
    KeepsControl s (zeroizeFromLoad s) := by
  intro hc
  have hd := hc.load_in_loading h
  refine ⟨hc.live_read_has_start, fun hs => ?_, nofun, fun _ => rfl, fun _ => hc.engines_free (.inl hd)⟩
  have := hc.start_in_stopped hs
  rw [hd] at this; cases this

theorem execOptionRecordReadEnd_keepsControl (s : State) :
    Answers (KeepsControl s) (execOptionRecordReadEnd s) := by
  unfold execOptionRecordReadEnd
  split
  · exact .next (.refl s)
  · next t ht =>
    obtain ⟨hl, e, rfl⟩ := loadAt_eq_some ht
    have hq (o : OptionRecord) : KeepsControl s (applyOption o (s.runTo e)) :=
      NothingBegins.keeps (.of_fields rfl rfl rfl rfl rfl rfl)
    refine .next ?_
    split_ifs
    · exact (hq _).trans (zeroizeFromLoad_keepsControl hl)
    · refine (hq _).trans (NothingBegins.keeps (loadNext_beginsNothing _ _ ?_))
      exact hl

theorem execStartCounterReadEnd_beginsNothing (s : State) :
    Answers (NothingBegins s) (execStartCounterReadEnd s) := by
  unfold execStartCounterReadEnd
  split
  · exact .next (.refl s)
  · next t ht =>
    obtain ⟨hl, e, rfl⟩ := loadAt_eq_some ht
    have hrun := runTo_beginsNothing s e
    dsimp only
    split
    · refine .next (.after ?_ (hrun.trans (loadNext_beginsNothing .counterProgram programTime hl)))
      exact .of_record rfl rfl rfl rfl rfl rfl
    · refine .next (hrun.trans (.after (loadNext_beginsNothing _ _ ?_) ?_))
      on_goal 2 => exact .of_fields rfl rfl rfl rfl rfl rfl
      exact hl

theorem afterStartCount_beginsNothing (s : State) : NothingBegins s (afterStartCount s) := by
  unfold afterStartCount
  split_ifs with h
  · exact loadNext_beginsNothing _ _ h
  · exact .refl s

theorem execStartCountProgramEnd_keepsControl (x : NvmEnd) (s : State) :
    Answers (KeepsControl s) (execStartCountProgramEnd x s) := by
  unfold execStartCountProgramEnd
  split
  · cases x with
    | success =>
      refine .next (NothingBegins.keeps (.after (afterStartCount_beginsNothing _) ?_))
      exact .of_record rfl rfl rfl rfl rfl rfl
    | failure =>
      refine .next (.after (afterStartCount_beginsNothing _).keeps
        (.after (raiseReport_keepsControl _ _) (NothingBegins.keeps ?_)))
      exact .of_record rfl rfl rfl rfl rfl rfl
  · exact .next (.refl s)

theorem execDirectoryImageReadEnd_keepsControl (s : State) :
    Answers (KeepsControl s) (execDirectoryImageReadEnd s) := by
  unfold execDirectoryImageReadEnd
  split
  · exact .next (.refl s)
  · next t ht =>
    obtain ⟨hl, e, rfl⟩ := loadAt_eq_some ht
    dsimp only
    split <;> exact .next (.after (loadNextSlice_keepsControl _ hl)
      (NothingBegins.keeps (.of_fields rfl rfl rfl rfl rfl rfl)))

theorem takeSlice_keepsControl (n : SliceNo) {s : State} (h : s.load.isSome = true) :
    KeepsControl s (takeSlice n s) := by
  unfold takeSlice
  split_ifs
  · exact .after (loadNextKey_keepsControl n none (s := loadSlice n _ s) h)
      (NothingBegins.keeps (.of_fields rfl rfl rfl rfl rfl rfl))
  · exact .after (loadNextSlice_keepsControl _ (s := blankSlice n s) h)
      (NothingBegins.keeps (.of_fields rfl rfl rfl rfl rfl rfl))

theorem execSliceImageReadEnd_keepsControl (s : State) :
    Answers (KeepsControl s) (execSliceImageReadEnd s) := by
  unfold execSliceImageReadEnd
  split
  · next x hx =>
    split
    · exact .next (.after (takeSlice_keepsControl _ (s := s.runTo _) (by rw [State.runTo_load, hx]; rfl))
        (runTo_beginsNothing s _).keeps)
    all_goals exact .next (.refl s)
  · exact .next (.refl s)

theorem kcvMismatch_load (n : SliceNo) (k : SlotNo) (s : State) : (kcvMismatch n k s).load = s.load := by
  unfold kcvMismatch
  rw [raiseReport_frame]
  rfl

theorem checkKcv_keepsControl (n : SliceNo) (k : SlotNo) {s : State} (h : s.load.isSome = true) :
    KeepsControl s (checkKcv n k s) := by
  unfold checkKcv
  split_ifs
  · exact loadNextKey_keepsControl n _ h
  · have hm : KeepsControl s (kcvMismatch n k s) := .after (raiseReport_keepsControl _ _)
      (NothingBegins.keeps (.of_fields rfl rfl rfl rfl rfl rfl))
    exact hm.trans (loadNextKey_keepsControl n _ (by rw [kcvMismatch_load]; exact h))

theorem execKcvCheckEnd_keepsControl (s : State) : Answers (KeepsControl s) (execKcvCheckEnd s) := by
  unfold execKcvCheckEnd
  split
  · next x hx =>
    split
    · exact .next (.after (checkKcv_keepsControl _ _ (s := s.runTo _) (by rw [State.runTo_load, hx]; rfl))
        (runTo_beginsNothing s _).keeps)
    all_goals exact .next (.refl s)
  · exact .next (.refl s)

/-! ### The zeroize -/

/-- A zeroize in flight goes on. -/
theorem beginZeroizeErase_beginsNothing (sector : Nat) (f : Bool) (g : Word) {s : State}
    (h : s.zeroizeOp.isSome = true) : NothingBegins s (beginZeroizeErase sector f g s) :=
  ⟨.inl rfl, id, id, fun _ => h, fun _ h => h, fun h => ⟨h, rfl⟩⟩

/-- The end of a zeroize leaves ZEROIZING, where no START and no load runs and no engine works. -/
theorem zeroizeEnds_keepsControl {s : State} (h : s.zeroizeOp.isSome = true) :
    KeepsControl s (zeroizeEnds s) := by
  intro hc
  have hd := hc.zeroize_in_zeroizing h
  refine ⟨hc.live_read_has_start, fun hs => ?_, fun hl => ?_, nofun, fun _ => ?_⟩
  · have := hc.start_in_stopped hs
    rw [hd] at this; cases this
  · have := hc.load_in_loading hl
    rw [hd] at this; cases this
  · exact hc.engines_free (.inr (by simp [State.frozen, hd]))

theorem afterZeroizeErase_keepsControl (sector : Nat) (f : Bool) (g : Word) {s : State}
    (h : s.zeroizeOp.isSome = true) : KeepsControl s (afterZeroizeErase sector f g s) := by
  unfold afterZeroizeErase
  split_ifs
  · exact (beginZeroizeErase_beginsNothing _ _ _ h).keeps
  · exact NothingBegins.keeps ⟨.inl rfl, id, id, fun _ => h, fun _ h => h, fun h => ⟨h, rfl⟩⟩
  · exact zeroizeEnds_keepsControl h

section
variable {s u : State} {p : NvmRecord × ZeroizeStep × Bool}

/-- A step of the zeroize has changed the array: the zeroize is still in flight. -/
theorem zeroizeOp_isSome_of_step (hz : s.zeroizeOp = some p) (hu : u.nvmOp = s.nvmOp) :
    u.zeroizeOp.isSome = true := by
  rw [zeroizeOp_congr hu, hz]; rfl

/-- The same with the step's failure reported. -/
theorem zeroizeOp_isSome_of_report (hz : s.zeroizeOp = some p) (r : Report) (hu : u.nvmOp = s.nvmOp) :
    (raiseReport r u).zeroizeOp.isSome = true := by
  rw [raiseReport_zeroizeOp]
  exact zeroizeOp_isSome_of_step hz hu

end

theorem execZeroizeMarkProgramEnd_keepsControl (x : NvmEnd) (s : State) :
    Answers (KeepsControl s) (execZeroizeMarkProgramEnd x s) := by
  unfold execZeroizeMarkProgramEnd
  split
  · next hz =>
    cases x with
    | success =>
      refine .next (NothingBegins.keeps (.after (beginZeroizeErase_beginsNothing _ _ _ ?_) ?_))
      · exact zeroizeOp_isSome_of_step hz rfl
      · exact .of_fields rfl rfl rfl rfl rfl rfl
    | failure =>
      refine .next (.after (NothingBegins.keeps (beginZeroizeErase_beginsNothing _ _ _ ?_))
        (.after (raiseReport_keepsControl _ _) (NothingBegins.keeps ?_)))
      · exact zeroizeOp_isSome_of_report hz _ rfl
      · exact .of_fields rfl rfl rfl rfl rfl rfl
  · exact .next (.refl s)

theorem execZeroizeSectorEraseEnd_keepsControl (x : NvmEnd) (s : State) :
    Answers (KeepsControl s) (execZeroizeSectorEraseEnd x s) := by
  unfold execZeroizeSectorEraseEnd
  split
  · next hz =>
    cases x with
    | success =>
      exact .next (.after (afterZeroizeErase_keepsControl _ _ _ (zeroizeOp_isSome_of_step hz rfl))
        (NothingBegins.keeps (.of_fields rfl rfl rfl rfl rfl rfl)))
    | failure =>
      exact .next (.after (afterZeroizeErase_keepsControl _ _ _ (zeroizeOp_isSome_of_report hz _ rfl))
        (.after (raiseReport_keepsControl _ _)
          (NothingBegins.keeps (.of_fields rfl rfl rfl rfl rfl rfl))))
  · exact .next (.refl s)

theorem execZeroizeFinalMarkEnd_keepsControl (x : NvmEnd) (s : State) :
    Answers (KeepsControl s) (execZeroizeFinalMarkEnd x s) := by
  unfold execZeroizeFinalMarkEnd
  split
  · next hz =>
    cases x with
    | success =>
      exact .next (.after (zeroizeEnds_keepsControl (zeroizeOp_isSome_of_step hz rfl))
        (NothingBegins.keeps (.of_fields rfl rfl rfl rfl rfl rfl)))
    | failure =>
      exact .next (.after (zeroizeEnds_keepsControl (zeroizeOp_isSome_of_report hz _ rfl))
        (.after (raiseReport_keepsControl _ _)
          (NothingBegins.keeps (.of_fields rfl rfl rfl rfl rfl rfl))))
  · exact .next (.refl s)

/-! ### Every command -/

theorem exec_keepsControl (c : Instr) (s : State) : Answers (KeepsControl s) (exec c s) := by
  cases c with
  | coldReset => exact execColdReset_keepsControl s
  | tamperAssert => exact execTamperAssert_keepsControl s
  | tamperRelease => exact .next (NothingBegins.keeps (.of_fields rfl rfl rfl rfl rfl rfl))
  | start w | stop w | softReset w | lock w => exact .next (controlWrite_keepsControl w s)
  | stationBaseWrite half v => exact .next (stationBaseWrite_beginsNothing half v s).keeps
  | post v => exact .next (postWrite_beginsNothing v s).keeps
  | noticePendingWrite v | errorFlagsWrite v =>
    exact .next (NothingBegins.keeps (.of_fields rfl rfl rfl rfl rfl rfl))
  | ignoredRegisterWrite o w v => exact .next (registerWrite_keepsControl o w v s)
  | stationRecordReadIssue => exact execStationRecordReadIssue_keepsControl s
  | stationRecordReadEnd r => exact execStationRecordReadEnd_keepsControl r s
  | cellReadIssue => exact (execCellReadIssue_beginsNothing s).beginsNothing
  | cellReadEnd r => exact execCellReadEnd_keepsControl r s
  | deadlineExpiry l take => exact (execDeadlineExpiry_beginsNothing l take s).beginsNothing
  | dispatch => exact execDispatch_keepsControl s
  | deriveComplete e => exact execDeriveComplete_keepsControl e s
  | verifyComplete e => exact execVerifyComplete_keepsControl e s
  | writeComplete e => exact execWriteComplete_keepsControl e s
  | evidenceComplete e => exact execEvidenceComplete_keepsControl e s
  | serviceUnwrapComplete e => exact (execServiceUnwrapComplete_beginsNothing e s).beginsNothing
  | issuerAdd => exact onHead_keepsControl _ fun h => (runIssuerAdd_beginsNothing h s).keeps
  | issuerRemove => exact onHead_keepsControl _ fun h => (runIssuerRemove_beginsNothing h s).keeps
  | issuerLock => exact onHead_keepsControl _ fun h => (runIssuerLock_beginsNothing h s).keeps
  | keyStage => exact onHead_keepsControl _ fun h => (runKeyStage_beginsNothing h s).keeps
  | keyRevoke => exact onHead_keepsControl _ fun h => (runKeyRevoke_beginsNothing h s).keeps
  | keyErase => exact onHead_keepsControl _ fun h => (runKeyErase_beginsNothing h s).keeps
  | setDay => exact onHead_keepsControl _ fun h => (runSetDay_beginsNothing h s).keeps
  | transportReplace => exact onHead_keepsControl _ fun h => (runTransportReplace_beginsNothing h s).keeps
  | commit => exact onHead_keepsControl _ fun h => runCommit_keepsControl h s
  | logRead => exact onHead_keepsControl _ fun _ => (finish_beginsNothing (.refl s)).keeps
  | laneStop => exact onHead_keepsControl _ fun h => (runLaneStop_beginsNothing h s).keeps
  | laneResume => exact onHead_keepsControl _ fun h => (runLaneResume_beginsNothing h s).keeps
  | writeChannelIssue => exact (execWriteChannelIssue_beginsNothing s).beginsNothing
  | returnFirstWriteEnd r => exact execReturnFirstWriteEnd_keepsControl r s
  | returnOwnWriteEnd r => exact execReturnOwnWriteEnd_keepsControl r s
  | noticeWriteEnd r => exact execNoticeWriteEnd_keepsControl r s
  | errorNoticeWriteEnd r => exact execErrorNoticeWriteEnd_keepsControl r s
  | commitEraseEnd r => exact (execCommitEraseEnd_beginsNothing r s).beginsNothing
  | commitWordProgramEnd r => exact (execCommitWordProgramEnd_beginsNothing r s).beginsNothing
  | spoilProgramEnd r => exact execSpoilProgramEnd_keepsControl r s
  | optionRecordReadEnd => exact execOptionRecordReadEnd_keepsControl s
  | startCounterReadEnd => exact (execStartCounterReadEnd_beginsNothing s).beginsNothing
  | startCountProgramEnd r => exact execStartCountProgramEnd_keepsControl r s
  | directoryImageReadEnd => exact execDirectoryImageReadEnd_keepsControl s
  | sliceImageReadEnd => exact execSliceImageReadEnd_keepsControl s
  | kcvCheckEnd => exact execKcvCheckEnd_keepsControl s
  | zeroizeMarkProgramEnd r => exact execZeroizeMarkProgramEnd_keepsControl r s
  | zeroizeSectorEraseEnd r => exact execZeroizeSectorEraseEnd_keepsControl r s
  | zeroizeFinalMarkEnd r => exact execZeroizeFinalMarkEnd_keepsControl r s
  | keyRamDamage n k d => exact .next (NothingBegins.keeps (.of_fields rfl rfl rfl rfl rfl rfl))

/-- Settles O55: in most commands nothing begins, and a START, an engine's work, a load's end, a zeroize
and the freezes begin in the device states that the law allows. -/
theorem controlLawKept : Obligations.ControlLawKept := by
  unfold Obligations.ControlLawKept
  intro s t hc hstep
  unfold step at hstep
  split at hstep
  · cases hstep
    exact (NothingBegins.of_fields rfl rfl rfl rfl rfl rfl : NothingBegins s s.tick).keeps hc
  · next c rest _ => exact exec_keepsControl c _ t hstep (hc.of_pending rest)

end Sys2Proof.Machine
end

section
namespace Sys2Proof.Machine

/-! ## The step (R26) -/

/-- Settles O1, by whether a command waits. -/
theorem stepRunsFrontCommand : Obligations.StepRunsFrontCommand := by
  unfold Obligations.StepRunsFrontCommand
  constructor
  · intro c rest s hp
    unfold step
    rw [hp]
  · intro s hp
    refine ⟨s.tick, ?_, rfl, BitVec.toNat_add ..⟩
    unfold step
    rw [hp]

end Sys2Proof.Machine
end

section
namespace Sys2Proof.Machine

/-! ## Drains (R41, R165, R166) -/

/-- A lane as a drain leaves it (R41). -/
def drainedLane (x : Lane) : Lane :=
  { x with
    state := if x.held = 0 then .paused else .draining
    scanWanted := false, pendingExt := [], queue := [] }

theorem drainedLane_not_running (x : Lane) : (drainedLane x).state ≠ .running := by
  unfold drainedLane; dsimp only; split_ifs <;> decide

theorem drainLane_lane_self (l : LaneNo) (s : State) : (drainLane l s).lane l = drainedLane (s.lane l) := by
  rw [drainLane_lane, if_pos rfl]; rfl

theorem drainLane_lane_ne {l m : LaneNo} (h : m ≠ l) (s : State) : (drainLane l s).lane m = s.lane m := by
  rw [drainLane_lane, if_neg h]

/-- Of a list of lanes, a STOP drains the RUNNING ones. -/
theorem drainLanes_lane (ls : List LaneNo) (s : State) (m : LaneNo) :
    (drainLanes ls s).lane m =
      if m ∈ ls ∧ (s.lane m).state = .running then drainedLane (s.lane m) else s.lane m := by
  induction ls generalizing s with
  | nil => simp [drainLanes]
  | cons l ls ih =>
    rw [drainLanes, ih]
    by_cases hm : m = l
    · subst hm
      by_cases hr : (s.lane m).state = .running
      · rw [if_pos hr, drainLane_lane_self, if_neg fun h => drainedLane_not_running _ h.2,
          if_pos ⟨List.mem_cons_self, hr⟩]
      · rw [if_neg hr, if_neg fun h => hr h.2, if_neg fun h => hr h.2]
    · have hlane : (if (s.lane l).state = .running then drainLane l s else s).lane m = s.lane m := by
        split_ifs
        · exact drainLane_lane_ne hm s
        · rfl
      simp only [hlane, List.mem_cons, hm, false_or]

/-- The requests of another lane wait as before when lane `l`'s leave the FIFO. -/
theorem filter_unstarted_of_ne {l m : LaneNo} (h : m ≠ l) (fifo : List ServiceRequest) :
    (fifo.filter fun r => !unstarted l r).filter (unstarted m) = fifo.filter (unstarted m) := by
  rw [List.filter_filter]
  refine List.filter_congr fun r _ => ?_
  unfold unstarted
  by_cases hr : r.lane = m
  · simp [hr, h]
  · simp [hr]

/-- The drain of lane `l` leaves what a drain of another lane returns. -/
theorem drainEntries_drainLane {l m : LaneNo} (h : m ≠ l) (s : State) :
    drainEntries m (drainLane l s) = drainEntries m s := by
  unfold drainEntries
  rw [drainLane_lane_ne h]
  show _ ++ ((s.fifo.filter fun r => !unstarted l r).filter (unstarted m)).map _ = _
  rw [filter_unstarted_of_ne h]
  rfl

/-- The STOPPED entries of a list of different lanes stand in the order of the list. -/
theorem drainLanes_returnQueue {ls : List LaneNo} (hd : ls.Nodup) (s : State) :
    (drainLanes ls s).returnQueue = s.returnQueue
      ++ ls.flatMap fun l => if (s.lane l).state = .running then drainEntries l s else [] := by
  induction ls generalizing s with
  | nil => simp [drainLanes]
  | cons l ls ih =>
    obtain ⟨hl, hd⟩ := List.nodup_cons.mp hd
    rw [drainLanes, ih hd, List.flatMap_cons]
    split_ifs with hr
    · have hrest : (ls.flatMap fun m =>
            if ((drainLane l s).lane m).state = .running then drainEntries m (drainLane l s) else [])
          = ls.flatMap fun m => if (s.lane m).state = .running then drainEntries m s else [] := by
        refine List.flatMap_congr fun m hm => ?_
        have hne : m ≠ l := by rintro rfl; exact hl hm
        rw [drainLane_lane_ne hne, drainEntries_drainLane hne]
      rw [hrest]
      exact List.append_assoc ..
    · rfl

/-- The unstarted requests of the RUNNING lanes leave the FIFO. -/
theorem drainLanes_fifo (ls : List LaneNo) (s : State) :
    (drainLanes ls s).fifo = s.fifo.filter fun r =>
      !(decide (r.lane ∈ ls ∧ (s.lane r.lane).state = .running) && r.phase != .inEngine) := by
  induction ls generalizing s with
  | nil => simp [drainLanes]
  | cons l ls ih =>
    rw [drainLanes, ih]
    split_ifs with hr
    · show List.filter _ (s.fifo.filter fun r => !unstarted l r) = _
      rw [List.filter_filter]
      refine List.filter_congr fun r _ => ?_
      unfold unstarted
      by_cases h : r.lane = l
      · rw [h, drainLane_lane_self]
        simp [drainedLane_not_running, hr]
      · rw [drainLane_lane_ne h]
        simp [h]
    · refine List.filter_congr fun r _ => ?_
      by_cases h : r.lane = l
      · simp [h, hr]
      · simp [h]

theorem staleRead_of_no_cell {l : LaneNo} {c : ReadChannel} (h : ∀ r, c ≠ .cell r) :
    staleRead l c = c := by
  cases c with
  | cell r => exact absurd rfl (h r)
  | free => rfl
  | station a => rfl

/-- The read in flight of a lane drained becomes stale. -/
theorem drainLanes_readChannel_cell (ls : List LaneNo) {s : State} {r : CellRead}
    (h : s.readChannel = .cell r) :
    (drainLanes ls s).readChannel = .cell
      { r with stale := r.stale || decide (r.lane ∈ ls ∧ (s.lane r.lane).state = .running) } := by
  induction ls generalizing s r with
  | nil => simp [drainLanes, h]
  | cons l ls ih =>
    rw [drainLanes]
    split_ifs with hr
    · have hs : (drainLane l s).readChannel = .cell { r with stale := r.stale || r.lane == l } := by
        show staleRead l s.readChannel = _
        rw [h]; rfl
      rw [ih hs]
      by_cases e : r.lane = l
      · simp [e, hr]
      · simp [e, beq_false_of_ne e, drainLane_lane_ne e]
    · rw [ih h]
      by_cases e : r.lane = l
      · simp [e, hr]
      · simp [e]

theorem drainLanes_readChannel_other (ls : List LaneNo) {s : State} (h : ∀ r, s.readChannel ≠ .cell r) :
    (drainLanes ls s).readChannel = s.readChannel := by
  induction ls generalizing s with
  | nil => rfl
  | cons l ls ih =>
    rw [drainLanes]
    split_ifs
    · have hs : (drainLane l s).readChannel = s.readChannel := staleRead_of_no_cell h
      rw [ih (by rw [hs]; exact h), hs]
    · exact ih h

/-! ### The device STOP -/

theorem exec_stop (s : State) : exec (.stop 2) s = .next (stopRequest s) := rfl

/-- Every lane after the drains of a STOP. -/
theorem drainAll_lane (s : State) (m : LaneNo) :
    (drainLanes allLanes s).lane m =
      if (s.lane m).state = .running then drainedLane (s.lane m) else s.lane m := by
  rw [drainLanes_lane]
  simp only [mem_allLanes, true_and]

theorem drainAll_held (s : State) (m : LaneNo) :
    ((drainLanes allLanes s).lane m).held = (s.lane m).held := by
  rw [drainAll_lane]; split_ifs <;> rfl

/-- STOPPING ends when no lane holds a cell, and entering STOPPED disables the lanes. -/
theorem endStopping_frame (s : State) :
    endStopping s = { s with device := (endStopping s).device, lanes := (endStopping s).lanes } := by
  unfold endStopping
  split_ifs <;> rfl

theorem endStopping_ends {s : State} (hd : s.device = .stopping) (h : ∀ m, (s.lane m).held = 0) :
    endStopping s = enterStopped s := if_pos ⟨hd, (noneHeld_iff s).mpr h⟩

theorem endStopping_stays {s : State} (h : ∃ m, (s.lane m).held ≠ 0) : endStopping s = s := by
  refine if_neg fun hs => ?_
  obtain ⟨m, hm⟩ := h
  exact hm ((noneHeld_iff s).mp hs.2 m)

/-- Of a lane, the end of STOPPING changes the state only. -/
theorem endStopping_lane (s : State) (m : LaneNo) :
    { (endStopping s).lane m with state := .disabled } = { s.lane m with state := .disabled } := by
  unfold endStopping
  split_ifs
  · rw [enterStopped_lane]
  · rfl

theorem stopRequest_running {s : State} (h : s.device = .running) :
    stopRequest s = endStopping { drainLanes allLanes s with device := .stopping } := if_pos h

/-- What the end of STOPPING can change after the drains of a STOP. -/
theorem endStopping_drained_frame {s u : State} (hu : u = { s with
    lanes := u.lanes, returnQueue := u.returnQueue, fifo := u.fifo, readChannel := u.readChannel }) :
    endStopping { u with device := .stopping } = { s with
      device := (endStopping { u with device := .stopping }).device
      lanes := (endStopping { u with device := .stopping }).lanes
      returnQueue := u.returnQueue, fifo := u.fifo, readChannel := u.readChannel } := by
  conv_lhs => rw [endStopping_frame]
  generalize (endStopping { u with device := .stopping }).device = d
  generalize (endStopping { u with device := .stopping }).lanes = ls
  conv_lhs => rw [hu]

/-- Settles O3, from what the drains of all lanes leave and whether STOPPING ends at once. -/
theorem stopDrainsRunningLanes : Obligations.StopDrainsRunningLanes := by
  unfold Obligations.StopDrainsRunningLanes
  intro s
  refine ⟨fun hd => ?_, fun hd => ?_⟩
  · rw [exec_stop]
    exact congrArg _ (if_neg hd)
  · rw [exec_stop, stopRequest_running hd]
    have hlane := drainAll_lane s
    have hheld := drainAll_held s
    have hqueue := drainLanes_returnQueue (ls := allLanes) (by decide) s
    have hfifo := drainLanes_fifo allLanes s
    have hcell (r : CellRead) (hr : s.readChannel = .cell r) := drainLanes_readChannel_cell allLanes hr
    have hother := drainLanes_readChannel_other allLanes (s := s)
    have hframe := endStopping_drained_frame (drainLanes_frame allLanes s)
    simp only [mem_allLanes, true_and] at hfifo hcell
    generalize drainLanes allLanes s = u at *
    refine ⟨endStopping { u with device := .stopping }, rfl, ?_, fun l => ?_, fun h0 => ?_, fun h1 => ?_,
      ?_, ?_, fun r hr => ?_, fun hr => ?_⟩
    · conv_lhs => rw [hframe]
      rw [endStopping_frame]
    · rw [endStopping_lane]
      show { u.lane l with state := .disabled } = _
      rw [hlane]
      split_ifs <;> rfl
    · rw [endStopping_ends (s := { u with device := .stopping }) rfl fun m => (hheld m).trans (h0 m)]
      exact ⟨rfl, fun l => by rw [enterStopped_lane]⟩
    · obtain ⟨m, hm⟩ := h1
      rw [endStopping_stays (s := { u with device := .stopping }) ⟨m, fun e => hm ((hheld m).symm.trans e)⟩]
      refine ⟨rfl, fun l => ?_⟩
      show (u.lane l).state = _
      rw [hlane]
      split_ifs <;> simp_all [drainedLane]
    · rw [endStopping_frame]
      exact hqueue
    · rw [endStopping_frame]
      exact hfifo
    · rw [endStopping_frame]
      exact hcell r hr
    · rw [endStopping_frame]
      exact hother hr

end Sys2Proof.Machine
end

section
namespace Sys2Proof.Machine

/-! ## Deadline expiry (R29) -/

theorem exec_deadlineExpiry_unqueued {l : LaneNo} {take : Word} {s : State}
    (h : ∀ r ∈ (s.lane l).queue, r.take ≠ take) : exec (.deadlineExpiry l take) s = .next s := by
  have hfind : (s.lane l).queue.find? (fun r => r.take == take) = none :=
    List.find?_eq_none.mpr fun r hr => by simpa using h r hr
  show execDeadlineExpiry l take s = _
  unfold execDeadlineExpiry
  rw [hfind]
  split_ifs <;> rfl

/-- The first request of a queue with a take number is the one found and removed. -/
theorem find_erase_first {before after' : List PassRequest} {r : PassRequest}
    (h : ∀ q ∈ before, q.take ≠ r.take) :
    (before ++ r :: after').find? (fun q => q.take == r.take) = some r
      ∧ (before ++ r :: after').erase r = before ++ after' := by
  have hr : r ∉ before := fun hm => h r hm rfl
  constructor
  · rw [List.find?_append, List.find?_eq_none.mpr fun q hq => by simpa using h q hq]
    simp
  · rw [List.erase_append_right _ hr, List.erase_cons_head]

/-- Settles O21, by what the search of the lane's queue finds. -/
theorem deadlineExpiryReturnsLate : Obligations.DeadlineExpiryReturnsLate := by
  unfold Obligations.DeadlineExpiryReturnsLate
  intro l take s
  refine ⟨fun hf => if_pos hf, exec_deadlineExpiry_unqueued, ?_⟩
  rintro r before after' hf hq rfl rfl hb hst hd
  obtain ⟨hfind, herase⟩ := find_erase_first (after' := after') hb
  show execDeadlineExpiry r.lane r.take s = _
  unfold execDeadlineExpiry
  rw [if_neg (by simp [hf]), hq, hfind]
  dsimp only
  rw [runTo_of_ahead s r.deadline hd, makeEntry_of_not_halted]
  · show Host.Outcome.next { s with
        gt := r.deadline
        lanes := s.lanes.set r.lane { s.lane r.lane with queue := (s.lane r.lane).queue.erase r }
        returnQueue := s.returnQueue ++ [notRunEntry r .late r.deadline] } = _
    rw [hq, herase]
  · show ((State.setLane _ r.lane _).lane r.lane).state ≠ _
    rw [State.lane_setLane, if_pos rfl]
    exact hst

end Sys2Proof.Machine
end

section
namespace Sys2Proof.Machine

/-! ## Service requests completed (R92, R171) -/

/-- A field at the area's start, the bytes behind it left at 0xFF. -/
theorem putBytes_leading {v : Bytes} (h : v.length ≤ 24) :
    putBytes (List.replicate 24 0xFF) 0 v = leading v := by
  refine List.ext_getElem (by simp [putBytes, leading, h]) fun i hi _ => ?_
  have hi : i < 24 := by simpa [putBytes] using hi
  by_cases hv : i < v.length
  · simp [putBytes, leading, byteAt, hv]
  · simp [putBytes, leading, byteAt, hi, hv, List.getElem_append_right (Nat.le_of_not_lt hv),
      -List.reduceReplicate]

section
variable {h : ServiceRequest} {rest : List ServiceRequest} {s : State}

theorem popHead_cons (hf : s.fifo = h :: rest) : popHead s = { s with fifo := rest } := by
  unfold popHead
  rw [hf]
  rfl

theorem finish_asWritten (hf : s.fifo = h :: rest) {st : Status} (hst : leavesArea st = true)
    (fields : List ResultField) : finish h st fields s = completedAsWritten h rest st s := by
  unfold finish serviceEntry
  rw [popHead_cons hf, if_pos hst]
  rfl

theorem finish_leading (hf : s.fifo = h :: rest) {st : Status} (hst : leavesArea st = false)
    {v : Bytes} (hv : v.length ≤ 24) :
    finish h st [(36, v)] s = completedWith h rest st (leading v) s := by
  unfold finish serviceEntry
  rw [popHead_cons hf, if_neg (by simp [hst]), ← putBytes_leading hv]
  rfl

theorem finish_laneFields (hf : s.fifo = h :: rest) {st : Status} (hst : leavesArea st = false)
    (l : LaneNo) (t : State) : finish h st (laneFields l t) s = completedWith h rest st
      (leading [BitVec.ofNat 8 (t.lane l).held, laneStateCode (t.lane l).state]) s :=
  finish_leading hf hst (by simp)

/-! ## LANE_STOP (R41, R42) -/

theorem exec_laneStop (ha : Arrived .laneStop h rest s) :
    exec .laneStop s = .next (runLaneStop h s) := congrArg _ (onHead_of_arrived ha _)

theorem runLaneStop_outside (hl : 16 ≤ (byteAt h.cell.bytes 6).toNat) :
    runLaneStop h s = finish h .malformed [] s := dif_neg (by unfold srvLane; omega)

theorem runLaneStop_lane {l : LaneNo} (hl : (byteAt h.cell.bytes 6).toNat = l.val) :
    runLaneStop h s =
      if (s.lane l).state = .running then
        makeEntry (serviceEntry h .ok (laneFields l (drainLane l (popHead s))) s.gt)
          (drainLane l (popHead s))
      else finish h .wrongState (laneFields l s) s := by
  have hlt : srvLane h.cell.bytes < 16 := by unfold srvLane; omega
  have hlane : (⟨srvLane h.cell.bytes, hlt⟩ : LaneNo) = l := Fin.ext hl
  unfold runLaneStop
  rw [dif_pos hlt, hlane]

theorem drainLane_not_halted {l m : LaneNo} (hm : (s.lane m).state ≠ .halted) :
    ((drainLane l s).lane m).state ≠ .halted := by
  by_cases e : m = l
  · rw [e, drainLane_lane_self]
    unfold drainedLane
    dsimp only
    split_ifs <;> decide
  · rwa [drainLane_lane_ne e]

/-- The entry of a LANE_STOP that has drained lane `l`. -/
theorem laneStop_entry (l : LaneNo) (now : Word) :
    serviceEntry h .ok (laneFields l (drainLane l s)) now =
      { lane := h.lane, cells := [h.cell], status := .ok, firstDone := false
        result := leading [BitVec.ofNat 8 (s.lane l).held,
          laneStateCode (if (s.lane l).held = 0 then .paused else .draining)] ++ leBytes32 now } := by
  unfold serviceEntry laneFields
  rw [if_neg (by decide), drainLane_lane_self, ← putBytes_leading (by simp)]
  rfl

/-- The STOPPED returns of a drain, part by part in the order of R41. -/
theorem drainEntries_parts (l : LaneNo) (s : State) : ∃ a b c, drainEntries l s = a ++ b ++ c
    ∧ ((s.lane l).pendingExt = [] → a = [])
    ∧ ((s.lane l).pendingExt ≠ [] →
        ∃ x, a = [x] ∧ x.lane = l ∧ x.cells = (s.lane l).pendingExt ∧ x.status = .stopped)
    ∧ b = (s.lane l).queue.map (fun r => notRunEntry r .stopped s.gt)
    ∧ c = (s.fifo.filter fun r => r.lane == l && r.phase != .inEngine).map
        (fun r => { lane := l, cells := [r.cell], status := .stopped, firstDone := false
                    result := bytesAt r.cell.bytes 36 28 }) :=
  ⟨_, _, _, rfl, fun h => if_pos h, fun h => ⟨_, if_neg h, rfl, rfl, rfl⟩, rfl, rfl⟩

/-! ## LANE_RESUME (R44) -/

theorem exec_laneResume (ha : Arrived .laneResume h rest s) :
    exec .laneResume s = .next (runLaneResume h s) := congrArg _ (onHead_of_arrived ha _)

theorem runLaneResume_outside (hl : 16 ≤ (byteAt h.cell.bytes 6).toNat) :
    runLaneResume h s = finish h .malformed [] s := dif_neg (by unfold srvLane; omega)

/-- The checks of a LANE_RESUME of a lane that exists, in their order. -/
theorem runLaneResume_lane {l : LaneNo} (hl : (byteAt h.cell.bytes 6).toNat = l.val) :
    runLaneResume h s =
      if (s.lane l).state ≠ .disabled
          ∧ ¬ (le16 h.cell.bytes 8).toNat < (s.lane l).config.stripLen then
        finish h .malformed [] s
      else if (s.lane l).state = .disabled ∨ (s.lane l).state = .running
          ∨ (s.lane l).state = .draining then
        finish h .wrongState (laneFields l s) s
      else if (s.lane l).state = .halted ∧ 0 < (s.lane l).held then
        finish h .busy (laneFields l s) s
      else
        finish h .ok
          (laneFields l (s.setLane l (resumedLane (le16 h.cell.bytes 8).toNat (s.lane l))))
          (s.setLane l (resumedLane (le16 h.cell.bytes 8).toNat (s.lane l))) := by
  have hlt : srvLane h.cell.bytes < 16 := by unfold srvLane; omega
  have hlane : (⟨srvLane h.cell.bytes, hlt⟩ : LaneNo) = l := Fin.ext hl
  unfold runLaneResume
  dsimp only
  rw [dif_pos hlt, hlane]
  rfl

end

/-- Settles O45, by the checks of both requests in their order. -/
theorem laneStopAndResume : Obligations.LaneStopAndResume := by
  unfold Obligations.LaneStopAndResume
  refine ⟨fun h rest s ha => ?_, drainEntries_parts, fun h rest s ha => ?_⟩
  · have hf : s.fifo = h :: rest := ha.2.1
    rw [exec_laneStop ha]
    refine ⟨fun hl => ?_, fun l hl hst => ?_, fun l hl hst hh => ?_⟩
    · rw [runLaneStop_outside hl, finish_asWritten hf rfl]
    · rw [runLaneStop_lane hl, if_neg hst, finish_laneFields hf rfl]
    · refine ⟨_, _, rfl, rfl, ?_, fun r hr => ?_, fun hr => ?_⟩
      all_goals
        rw [runLaneStop_lane hl, if_pos hst, popHead_cons hf, laneStop_entry,
          makeEntry_of_not_halted (drainLane_not_halted hh)]
      · rfl
      · show staleRead l s.readChannel = _
        rw [hr]; rfl
      · exact staleRead_of_no_cell hr
  · have hf : s.fifo = h :: rest := ha.2.1
    rw [exec_laneResume ha]
    refine ⟨fun hl => ?_, fun l hl => ?_⟩
    · rw [runLaneResume_outside hl, finish_asWritten hf rfl]
    · rw [runLaneResume_lane hl]
      refine ⟨fun hst hc => ?_, fun hst => ?_, fun hc hst hh => ?_, fun hc hh hst => ?_⟩
      · rw [if_pos ⟨hst, Nat.not_lt.mpr hc⟩, finish_asWritten hf rfl]
      · have h1 : ¬ ((s.lane l).state ≠ .disabled
            ∧ ¬ (le16 h.cell.bytes 8).toNat < (s.lane l).config.stripLen) := by tauto
        have h2 : (s.lane l).state = .disabled ∨ (s.lane l).state = .running
            ∨ (s.lane l).state = .draining := by tauto
        rw [if_neg h1, if_pos h2, finish_laneFields hf rfl]
      · rw [if_neg fun h => h.2 hc, if_neg (by simp [hst]), if_pos ⟨hst, hh⟩,
          finish_laneFields hf rfl, hst]
        rfl
      · rw [if_neg fun h => h.2 hc, if_neg (by rcases hst with e | e <;> simp [e]),
          if_neg (by omega), finish_laneFields (s := s.setLane l _) hf rfl, State.lane_setLane, if_pos rfl]
        show Host.Outcome.next (completedWith h rest .ok
          (leading [BitVec.ofNat 8 (s.lane l).held, 0x01]) _) = _
        rw [hh]
        rfl

end Sys2Proof.Machine
end

section
namespace Sys2Proof.Machine

/-! ## The best of a list -/

/-- A fold that keeps the better of two ends with the element that is better than every other. -/
theorem foldl_best {α : Type} {p : α → α → Bool} {x : α} (hp : ∀ y, p x y = true → p y x = false)
    {a : α} {xs : List α} (hx : x ∈ a :: xs) (hb : ∀ y ∈ a :: xs, y = x ∨ p x y = true) :
    xs.foldl (fun a b => if p b a then b else a) a = x := by
  induction xs generalizing a with
  | nil => exact (List.mem_singleton.mp hx).symm
  | cons b xs ih =>
    have ha := hb a List.mem_cons_self
    have hb' := hb b (List.mem_cons_of_mem _ List.mem_cons_self)
    have hrest : ∀ y ∈ xs, y = x ∨ p x y = true := fun y hy =>
      hb y (List.mem_cons_of_mem _ (List.mem_cons_of_mem _ hy))
    refine ih ?_ ?_
    · by_cases hax : a = x
      · subst hax
        rcases hb' with rfl | hb'
        · simp
        · simp [hp b hb']
      · rcases ha with ha | ha
        · exact absurd ha hax
        · rcases List.mem_cons.mp hx with e | hx
          · exact absurd e.symm hax
          · rcases List.mem_cons.mp hx with rfl | hx
            · simp [ha]
            · exact List.mem_cons_of_mem _ hx
    · intro y hy
      rcases List.mem_cons.mp hy with rfl | hy
      · dsimp only
        split_ifs
        · exact hb'
        · exact ha
      · exact hrest y hy

/-- A search finds the only element that meets the test. -/
theorem find?_of_unique {α : Type} {p : α → Bool} {xs : List α} {x : α} (hx : x ∈ xs)
    (hp : p x = true) (hu : ∀ y, p y = true → y = x) : xs.find? p = some x := by
  cases h : xs.find? p with
  | none => exact absurd hp (List.find?_eq_none.mp h x hx)
  | some y => rw [hu y (List.find?_some h)]

/-! ## The arbiter (R30 to R32) -/

theorem ranksBefore_iff (s : State) (a b : PassRequest) : ranksBefore s a b = true ↔ Ranked s a b := by
  unfold ranksBefore Ranked signedDist
  simp only [Bool.or_eq_true, Bool.and_eq_true, decide_eq_true_eq, beq_iff_eq]

/-- A time after another is not before it. -/
theorem toInt_sub_asymm {a b : Word} (h : 0 < (b - a).toInt) : ¬ 0 < (a - b).toInt := by
  simp only [BitVec.toInt_eq_toNat_cond, BitVec.toNat_sub] at h ⊢
  split_ifs at h ⊢ <;> omega

theorem Ranked.asymm {s : State} {a b : PassRequest} (h : Ranked s a b) : ¬ Ranked s b a := by
  unfold Ranked at h ⊢
  rcases h with h | ⟨hd, h | ⟨hp, h | ⟨hl, h⟩⟩⟩
  · omega
  · omega
  · have hne : b.lane ≠ a.lane := fun e => by rw [e] at h; omega
    rintro (g | ⟨_, g | ⟨_, g | ⟨e, _⟩⟩⟩)
    · omega
    · omega
    · omega
    · exact hne e
  · have htake := toInt_sub_asymm h
    have hval := congrArg Fin.val hl
    omega

theorem bestRequest_eq_foldl (s : State) (r : PassRequest) (rs : List PassRequest) :
    bestRequest s r rs = rs.foldl (fun a b => if ranksBefore s b a then b else a) r := by
  induction rs generalizing r with
  | nil => rfl
  | cons q rs ih => exact ih _

/-- The request ranked before every other is the one chosen. -/
theorem chosen_of_Chosen {r : PassRequest} {s : State} (h : Chosen r s) : s.chosen = some r := by
  obtain ⟨hr, hbest⟩ := h
  have hmem : r ∈ s.queued := List.mem_flatMap.mpr ⟨r.lane, mem_allLanes _, hr⟩
  have hall : ∀ q ∈ s.queued, q = r ∨ ranksBefore s r q = true := fun q hq => by
    obtain ⟨l, _, hl⟩ := List.mem_flatMap.mp hq
    rw [ranksBefore_iff]
    exact hbest l q hl
  have hasymm : ∀ q, ranksBefore s r q = true → ranksBefore s q r = false := fun q hq => by
    rw [Bool.eq_false_iff, Ne, ranksBefore_iff]
    exact ((ranksBefore_iff s r q).mp hq).asymm
  unfold State.chosen
  cases hq : s.queued with
  | nil => rw [hq] at hmem; cases hmem
  | cons q qs =>
    rw [hq] at hmem hall
    exact congrArg some ((bestRequest_eq_foldl s q qs).trans (foldl_best hasymm hmem hall))

theorem chosen_of_empty {s : State} (h : ∀ l, (s.lane l).queue = []) : s.chosen = none := by
  have hq : s.queued = [] := List.flatMap_eq_nil_iff.mpr fun l _ => h l
  unfold State.chosen
  rw [hq]

theorem freeEngine_of_handedOut {e : EngineNo} {s : State} (h : HandedOut e s) :
    s.freeEngine = some e := by
  unfold State.freeEngine
  rcases h.2 with ⟨rfl, h0⟩ | ⟨rfl, h0, h1, hc⟩
  · rw [if_pos (by rw [h0]; rfl)]
  · rw [if_neg (by simpa using h0), if_pos ⟨hc, by rw [h1]; rfl⟩]

theorem exec_dispatch_chosen {e : EngineNo} {r : PassRequest} {s : State} (he : HandedOut e s)
    (hr : Chosen r s) : exec .dispatch s = .next (dispatchRequest e r s) := by
  show execDispatch s = _
  unfold execDispatch
  rw [he.1, freeEngine_of_handedOut he, chosen_of_Chosen hr]

theorem exec_dispatch_grant {e : EngineNo} {h : ServiceRequest} {rest : List ServiceRequest}
    {s : State} (he : HandedOut e s) (hq : ∀ l, (s.lane l).queue = []) (hf : s.fifo = h :: rest)
    (hp : h.phase = .ready) : exec .dispatch s = .next (grantEngine e h rest s) := by
  show execDispatch s = _
  unfold execDispatch
  rw [he.1, freeEngine_of_handedOut he, chosen_of_empty hq, hf]
  exact if_pos hp

/-- Settles O27: the handed-out engine goes to the best request, or else to a ready head. -/
theorem arbiterChoice : Obligations.ArbiterChoice := by
  unfold Obligations.ArbiterChoice
  refine ⟨fun e r s => exec_dispatch_chosen, fun e h rest k s he hq hf hp hk => ?_⟩
  rw [exec_dispatch_grant he hq hf hp]
  unfold grantEngine
  rw [hk]
  rfl

end Sys2Proof.Machine
end

section
namespace Sys2Proof.Machine

/-! ## What a dispatch reads (R46 to R50) -/

/-! ### Newest generations (R49, R82) -/

theorem mem_allSlots (k : SlotNo) : k ∈ allSlots := by revert k; decide

theorem mem_allSlices (n : SliceNo) : n ∈ allSlices := by revert n; decide

theorem newerGen_iff (a b : Byte) : newerGen a b = true ↔ 1 ≤ (a - b).toNat ∧ (a - b).toNat ≤ 127 := by
  simp [newerGen]

theorem newerGen_asymm {a b : Byte} (h : newerGen a b = true) : newerGen b a = false := by
  rw [newerGen_iff] at h
  rw [Bool.eq_false_iff, Ne, newerGen_iff]
  simp only [BitVec.toNat_sub] at h ⊢
  omega

theorem mem_activeGens {s : State} {n : SliceNo} {g : Byte} :
    g ∈ s.activeGens n ↔ ∃ k, (s.slot n k).state = .active ∧ (s.slot n k).gen? = some g := by
  unfold State.activeGens
  rw [List.mem_filterMap]
  refine exists_congr fun k => ?_
  by_cases h : (s.slot n k).state = .active <;> simp [h, mem_allSlots]

/-- The newest generation that the statements speak of is the one that the fold finds. -/
theorem newestActive_of_NewestActive {s : State} {n : SliceNo} {o : Option Byte}
    (h : NewestActive s n o) : s.newestActive n = o := by
  unfold State.newestActive
  cases o with
  | none =>
    have hnil : s.activeGens n = [] := List.eq_nil_iff_forall_not_mem.mpr fun g hg => by
      obtain ⟨k, hk, _⟩ := mem_activeGens.mp hg
      exact h k hk
    rw [hnil]
    rfl
  | some g =>
    obtain ⟨hg, hbest⟩ := h
    have hmem : g ∈ s.activeGens n := mem_activeGens.mpr hg
    have hall : ∀ h ∈ s.activeGens n, h = g ∨ newerGen g h = true := fun h hh => by
      obtain ⟨k, hk, hgen⟩ := mem_activeGens.mp hh
      rw [newerGen_iff]
      exact or_iff_not_imp_left.mpr (hbest k h hk hgen)
    cases hl : s.activeGens n with
    | nil => rw [hl] at hmem; cases hmem
    | cons a gs =>
      rw [hl] at hmem hall
      exact congrArg some (foldl_best (fun _ => newerGen_asymm) hmem hall)

/-! ### The issuer (R46, R71) -/

theorem sliceOf_of_boundTo {s : State} {issuer : Half} {n : SliceNo} (h : BoundTo s issuer n) :
    s.sliceOf issuer = some n := by
  obtain ⟨⟨b, hb, hi⟩, hu⟩ := h
  refine find?_of_unique (mem_allSlices n) (by simp [hb, hi]) fun m hm => ?_
  cases hc : s.binding m with
  | none => simp [hc] at hm
  | some c => exact hu m c hc (by simpa [hc] using hm)

theorem sliceOf_of_unbound {s : State} {issuer : Half} (h : Unbound s issuer) :
    s.sliceOf issuer = none := by
  refine List.find?_eq_none.mpr fun m _ hm => ?_
  cases hc : s.binding m with
  | none => simp [hc] at hm
  | some c => exact h m c hc (by simpa [hc] using hm)

theorem newestGenOf_of_NewestGen {s : State} {r : PassRequest} {g : Byte} (h : NewestGen s r g) :
    newestGenOf s r = g := by
  unfold newestGenOf State.issuerSlice
  rcases h with ⟨h0 | hu, rfl⟩ | ⟨n, o, h0, hb, hn, rfl⟩
  · rw [if_pos h0]
  · rw [sliceOf_of_unbound hu]
    split_ifs <;> rfl
  · rw [if_neg h0, sliceOf_of_boundTo hb]
    dsimp only
    rw [newestActive_of_NewestActive hn]

/-- A key-bearing lookup is in the slice of the request's issuer. -/
theorem issuerSlice_of_bearing {s : State} {r : PassRequest} {ref : SlotRef}
    (h : lookup s r = .bearing ref) : s.issuerSlice r.issuer = some ref.slice := by
  unfold lookup at h
  split at h
  · cases h
  · next n hn =>
    rw [hn]
    unfold genLookup at h
    split at h
    · split_ifs at h
    · split at h <;> cases h <;> rfl

/-! ### Evidence (R50) -/

/-- The ACTIVE slots of the station's slice. -/
def activeStation (s : State) : Finset SlotNo :=
  Finset.univ.filter fun k => (s.slot 0 k).state = .active

theorem activeStation_makeFaulty (s : State) (k : SlotNo) :
    activeStation (makeFaulty 0 k s) = (activeStation s).erase k := by
  ext j
  simp only [activeStation, Finset.mem_filter, Finset.mem_univ, true_and, Finset.mem_erase,
    makeFaulty_slot]
  by_cases h : j = k <;> simp [h]

theorem evidenceSlot_of_newest {s : State} {k : SlotNo} (h : NewestStation s k) :
    s.evidenceSlot = some k := by
  obtain ⟨hk, g, hg, hbest⟩ := h
  have hnewest : NewestActive s 0 (some g) := ⟨⟨k, hk, hg⟩, fun j h hj hgen hne => by
    have hjk : j ≠ k := by rintro rfl; exact hne (Option.some.inj (hgen.symm.trans hg))
    obtain ⟨h', hh', hnew⟩ := hbest j hjk hj
    rw [Option.some.inj (hgen.symm.trans hh')]
    exact hnew⟩
  unfold State.evidenceSlot
  rw [newestActive_of_NewestActive hnewest]
  refine find?_of_unique (mem_allSlots k) (by simp [hk, hg]) fun j hj => ?_
  obtain ⟨hj, hgen⟩ : (s.slot 0 j).state = .active ∧ (s.slot 0 j).gen? = some g := by simpa using hj
  by_contra hjk
  obtain ⟨h, hh, hnew, _⟩ := hbest j hjk hj
  rw [Option.some.inj (hh.symm.trans hgen)] at hnew
  simp at hnew

theorem readKey_clean {x : Slot} {c : KeyCell} (h : x.key = some c) (he : c.ecc = .clean) :
    readKey x = .clean c.value := by simp only [readKey, h, he]

theorem readKey_correctable {x : Slot} {c : KeyCell} (h : x.key = some c) (he : c.ecc = .correctable) :
    readKey x = .corrected c.value := by simp only [readKey, h, he]

theorem readKey_uncorrectable {x : Slot} {c : KeyCell} (h : x.key = some c)
    (he : c.ecc = .uncorrectable) : readKey x = .failed := by simp only [readKey, h, he]

/-- With one unit of fuel for each ACTIVE slot, the reads are those that the statements speak of. -/
theorem readEvidence_of_reads {lane : LaneNo} {s t : State} {key : Option Bytes} {fixed : Bool}
    {reports : List Report} (h : EvidenceReads lane s key fixed reports t) {fuel : Nat}
    (hfuel : (activeStation s).card ≤ fuel) :
    readEvidence lane fuel s = { state := t, key := key, corrected := fixed, reports := reports } := by
  have hpos : ∀ {u : State} {k : SlotNo}, NewestStation u k → k ∈ activeStation u := fun hk =>
    Finset.mem_filter.mpr ⟨Finset.mem_univ _, hk.1⟩
  induction h generalizing fuel with
  | noneLeft s hs =>
    have hslot : s.evidenceSlot = none := by
      unfold State.evidenceSlot
      rw [newestActive_of_NewestActive (o := none) hs]
    cases fuel with
    | zero => rfl
    | succ fuel => rw [readEvidence, hslot]
  | clean s k c hk hc he =>
    obtain _ | fuel := fuel
    · have := Finset.card_pos.mpr ⟨k, hpos hk⟩
      omega
    · rw [readEvidence, evidenceSlot_of_newest hk]
      dsimp only
      rw [readKey_clean hc he]
  | corrected s k c hk hc he =>
    obtain _ | fuel := fuel
    · have := Finset.card_pos.mpr ⟨k, hpos hk⟩
      omega
    · rw [readEvidence, evidenceSlot_of_newest hk]
      dsimp only
      rw [readKey_correctable hc he]
  | uncorrectable s k c key fixed reports t hk hc he _ ih =>
    obtain _ | fuel := fuel
    · have := Finset.card_pos.mpr ⟨k, hpos hk⟩
      omega
    · rw [readEvidence, evidenceSlot_of_newest hk]
      dsimp only
      rw [readKey_uncorrectable hc he]
      dsimp only
      rw [ih]
      rw [activeStation_makeFaulty, Finset.card_erase_of_mem (hpos hk)]
      omega

/-- The evidence decision is the one that the statements speak of. -/
theorem decideEvidence_of_decided {r : PassRequest} {s t : State} {key : Option Bytes} {fixed : Bool}
    {reports : List Report} (h : EvidenceDecided r s key fixed reports t) :
    decideEvidence s r = { state := t, key := key, corrected := fixed, reports := reports } := by
  unfold decideEvidence
  rcases h with ⟨h, rfl, rfl, rfl, rfl⟩ | ⟨hw, hx, h⟩
  · rw [if_neg (by rcases h with h | h <;> simp [h])]
  · rw [if_pos (by simp [hw, hx])]
    exact readEvidence_of_reads h (Finset.card_le_univ _)

/-- Without a key no read has corrected an error. -/
theorem EvidenceReads.fixed_of_no_key {lane : LaneNo} {s t : State} {key : Option Bytes} {fixed : Bool}
    {reports : List Report} (h : EvidenceReads lane s key fixed reports t) (hk : key = none) :
    fixed = false := by
  induction h with
  | noneLeft => rfl
  | clean => cases hk
  | corrected => cases hk
  | uncorrectable _ _ _ _ _ _ _ _ _ _ _ ih => exact ih hk

theorem EvidenceDecided.fixed_of_no_key {r : PassRequest} {s t : State} {fixed : Bool}
    {reports : List Report} (h : EvidenceDecided r s none fixed reports t) : fixed = false := by
  rcases h with ⟨_, _, h, _⟩ | ⟨_, _, h⟩
  · exact h
  · exact h.fixed_of_no_key rfl

end Sys2Proof.Machine
end

section
namespace Sys2Proof.Machine

/-! ## The decision of a dispatch (R33 to R36) -/

theorem lanesWithout_state (r : PassRequest) {s t : State} (h : t.lanes = lanesWithout r s) (l : LaneNo) :
    (t.lane l).state = (s.lane l).state := by
  rw [State.lane_of_set (s := s) (l := r.lane) h]
  split_ifs with e
  · rw [e]
  · rfl

section
variable {s : State} {r : PassRequest} {ref : SlotRef}

theorem lookup_unqueue (s : State) (r : PassRequest) : lookup (unqueue r s) r = lookup s r := rfl

theorem cacheProbe_unqueue (s : State) (r : PassRequest) (ref : SlotRef) :
    cacheProbe (unqueue r s) r ref = cacheProbe s r ref := rfl

/-- What steps 1 to 4 give a lookup with a no-key verdict. -/
theorem findKey_noKey {v : Verdict} (h : lookup s r = .noKey v) : findKey (unqueue r s) r =
    { state := { s with lanes := lanesWithout r s }, verdict := some v, ref := none, keys := .absent
      hit := false, corrected := false, reports := [] } := by
  unfold findKey
  rw [lookup_unqueue, h]
  rfl

/-- What they give a hit of the cache. -/
theorem findKey_hit {y : CacheEntry} (h : lookup s r = .bearing ref) (hy : ProbeHits s r ref y) :
    findKey (unqueue r s) r =
      { state := { s with lanes := lanesWithout r s, cache := y :: s.cache.erase y }, verdict := none
        ref := some ref, keys := .tag y.kAuth y.kWrite, hit := true, corrected := false, reports := [] } := by
  unfold findKey
  rw [lookup_unqueue, h]
  dsimp only
  rw [cacheProbe_unqueue, cacheProbe_of_hits (lookup_epoch h) hy]
  rfl

/-- A miss goes on to the master-key read. -/
theorem findKey_miss (h : lookup s r = .bearing ref) (hm : ProbeMisses s r ref) :
    findKey (unqueue r s) r = masterRead (unqueue r s) r ref := by
  unfold findKey
  rw [lookup_unqueue, h]
  dsimp only
  rw [cacheProbe_unqueue, (cacheProbe_eq_none_iff (lookup_epoch h)).mpr hm]

section
variable {c : KeyCell} (hc : (s.slot ref.slice ref.slot).key = some c)
include hc

theorem masterRead_clean (he : c.ecc = .clean) : masterRead s r ref =
    { state := s, verdict := none, ref := some ref, keys := .master c.value, hit := false
      corrected := false, reports := [] } := by
  unfold masterRead
  rw [readKey_clean hc he]

theorem masterRead_correctable (he : c.ecc = .correctable) : masterRead s r ref =
    { state := s, verdict := none, ref := some ref, keys := .master c.value, hit := false
      corrected := true, reports := [eccReport .correctedEcc r.lane ref.slice ref.slot] } := by
  unfold masterRead
  rw [readKey_correctable hc he]

theorem masterRead_uncorrectable (he : c.ecc = .uncorrectable) : masterRead s r ref =
    { state := makeFaulty ref.slice ref.slot s, verdict := some .keyFault, ref := none, keys := .absent
      hit := false, corrected := false
      reports := [eccReport .uncorrectedEcc r.lane ref.slice ref.slot] } := by
  unfold masterRead
  rw [readKey_uncorrectable hc he]

end

/-! ### The mode (R34, R35) -/

theorem verifyBlocks_eq (n : Nat) : verifyBlocks n = 1 + (8 + n + 1 + 15) / 16 := rfl

theorem writeBlocks_eq (n : Nat) : writeBlocks n = 1 + (8 + n + 1 + 15) / 16 := rfl

section
variable {slack : Int} {bearing hit available : Bool}

theorem chooseMode_full (h : ((5 * fullCost r bearing hit available : Nat) : Int) ≤ slack) :
    chooseMode r slack bearing hit available = some (if bearing then .full else .keyless) := if_pos h

theorem chooseMode_reduced (h : slack < ((5 * fullCost r true hit available : Nat) : Int))
    (ha : r.allowReduced = true) (hr : ((5 * reducedCost r true hit available : Nat) : Int) ≤ slack) :
    chooseMode r slack true hit available = some .reduced := by
  unfold chooseMode blockTime
  rw [if_neg (not_le.mpr h), if_pos]
  simpa [ha] using hr

theorem chooseMode_late (h : slack < ((5 * fullCost r bearing hit available : Nat) : Int))
    (hr : bearing = false ∨ r.allowReduced = false
      ∨ slack < ((5 * reducedCost r bearing hit available : Nat) : Int)) :
    chooseMode r slack bearing hit available = none := by
  unfold chooseMode blockTime
  rw [if_neg (not_le.mpr h), if_neg]
  rcases hr with hr | hr | hr
  · simp [hr]
  · simp [hr]
  · rw [decide_eq_false (not_le.mpr hr)]
    simp

end
end

/-! ### The serial (R51) -/

/-- A dispatch with evidence takes a serial. -/
theorem spendSerial_if (ev : Option Bytes) (s : State) :
    (if ev.isSome = true then spendSerial s else s) =
      { s with issueCount := issueAfter s ev, evidenceExhausted := exhaustedAfter s ev } := by
  unfold issueAfter exhaustedAfter
  cases ev with
  | none => simp
  | some k =>
    unfold spendSerial
    simp only [Option.isSome_some, if_true, true_and, Bool.true_and]
    by_cases h : s.issueCount = 0xFFFFF
    · rw [if_pos h, if_neg (not_not.mpr h), decide_eq_true h, Bool.or_true]
    · rw [if_neg h, if_pos h, decide_eq_false h, Bool.or_false]

/-- The work of a request that runs takes its engine, and with evidence a serial. -/
theorem runRequest_engine (e : EngineNo) {w : PassWork} (ev : Option Bytes) {s : State}
    (hser : w.serial.isSome = ev.isSome) (hw : w.stages ≠ []) : runRequest e w s = { s with
      engines := s.engines.set e (some (.pass w))
      issueCount := issueAfter s ev, evidenceExhausted := exhaustedAfter s ev } := by
  unfold runRequest
  rw [hser, spendSerial_if, if_neg (by simpa using hw)]
  rfl

/-- Work without a stage is completed at once. -/
theorem runRequest_complete (e : EngineNo) {w : PassWork} {s : State} (hser : w.serial = none)
    (hw : w.stages = []) : runRequest e w s = makeEntry (ranEntry w w.dispatchGt) s := by
  unfold runRequest
  rw [hser, hw]
  rfl

/-! ### The outcomes of a dispatch -/

/-- What a dispatch decides on: the key outcome of steps 1 to 4 and the evidence of step 5, which leave the
state `x`. -/
structure Decided (r : PassRequest) (s : State) (k : KeyOutcome) (ev : Option Bytes) (evFixed : Bool)
    (evReports : List Report) (x : State) : Prop where
  key : findKey (unqueue r s) r = k
  evidence : decideEvidence k.state r =
    { state := x, key := ev, corrected := evFixed, reports := evReports }

section
variable {e : EngineNo} {r : PassRequest} {s x : State} {k : KeyOutcome} {ev : Option Bytes}
  {evFixed : Bool} {evReports : List Report}

/-- The reads of a dispatch change nothing but the key store, the cache and the lane's queue. -/
theorem Decided.keyStoreOnly (h : Decided r s k ev evFixed evReports x) :
    KeyStoreOnly { s with lanes := lanesWithout r s } x := by
  have hk := findKey_keyStoreOnly (unqueue r s) r
  have hx := decideEvidence_keyStoreOnly k.state r
  rw [h.key] at hk
  rw [h.evidence] at hx
  exact hk.trans hx

theorem Decided.dispatch_late (h : Decided r s k ev evFixed evReports x)
    (hm : chooseMode r (r.deadline - s.gt).toInt k.ref.isSome k.hit ev.isSome = none) :
    dispatchRequest e r s = raiseReports (k.reports ++ evReports)
      (makeEntry (notRunEntry r .late s.gt) x) := by
  unfold dispatchRequest
  rw [h.key]
  dsimp only
  rw [h.evidence, signedDist, hm]

theorem Decided.dispatch_runs (h : Decided r s k ev evFixed evReports x) {m : Mode}
    (hm : chooseMode r (r.deadline - s.gt).toInt k.ref.isSome k.hit ev.isSome = some m) :
    dispatchRequest e r s = raiseReports (k.reports ++ evReports)
      (runRequest e (startWork s r k ⟨x, ev, evFixed, evReports⟩ m) x) := by
  unfold dispatchRequest
  rw [h.key]
  dsimp only
  rw [h.evidence, signedDist, hm]

/-- A return entry made after the reads of a dispatch. -/
theorem Decided.entry_made (h : Decided r s k ev evFixed evReports x)
    (hl : (s.lane r.lane).state ≠ .halted) {en : ReturnEntry} (hen : en.lane = r.lane) :
    makeEntry en x = { x with returnQueue := s.returnQueue ++ [en] } := by
  obtain ⟨_, _, _, _, rfl⟩ := h.keyStoreOnly
  rw [makeEntry_of_not_halted]
  rw [hen, lanesWithout_state r (s := s) rfl]
  exact hl

/-- LATE at dispatch (R35). -/
theorem Decided.late (h : Decided r s k ev evFixed evReports x)
    (hl : (s.lane r.lane).state ≠ .halted)
    (hm : chooseMode r (r.deadline - s.gt).toInt k.ref.isSome k.hit ev.isSome = none) :
    dispatchRequest e r s = raiseReports (k.reports ++ evReports)
      { x with returnQueue := s.returnQueue ++ [notRunEntry r .late s.gt] } := by
  rw [h.dispatch_late hm, h.entry_made hl rfl]

/-- A request that takes the engine (R36, R45, R51). -/
theorem Decided.runs (h : Decided r s k ev evFixed evReports x) {m : Mode}
    (hm : chooseMode r (r.deadline - s.gt).toInt k.ref.isSome k.hit ev.isSome = some m)
    {st : Stage} {rest : List Stage} (hst : stageList m k.hit ev.isSome = st :: rest) :
    dispatchRequest e r s = raiseReports (k.reports ++ evReports) { x with
      engines := s.engines.set e (some (.pass
        { request := r, dispatchGt := s.gt, mode := m, verdict := k.verdict, ref := k.ref
          keys := k.keys, evidenceKey := ev
          serial := if ev.isSome then some s.nextSerial else none
          newestGen := newestGenOf k.state r, staleGen := k.ref.isSome && staleGenOf k.state r
          cacheHit := k.hit, eccCorrected := k.corrected || evFixed
          stages := st :: rest, stageBlocks := stageBlocksOf r st
          stageEnd := s.gt + BitVec.ofNat 32 (5 * stageBlocksOf r st)
          wbAuth := none, evMac := none }))
      issueCount := issueAfter s ev, evidenceExhausted := exhaustedAfter s ev } := by
  rw [h.dispatch_runs hm, runRequest_engine (ev := ev)]
  · obtain ⟨_, _, _, _, hx⟩ := h.keyStoreOnly
    unfold startWork
    rw [hst, hx]
    rfl
  · unfold startWork
    cases ev <;> rfl
  · show stageList m k.hit ev.isSome ≠ []
    rw [hst]
    exact List.cons_ne_nil _ _

end

end Sys2Proof.Machine
end

section
namespace Sys2Proof.Machine

/-! ## A key-bearing dispatch -/

section
variable {r : PassRequest} {s : State} {ref : SlotRef} {keys : KeyMaterial} {hit fixed : Bool}
  {cache' : List CacheEntry} {reports : List Report}

/-- The key outcome of a request whose keys a hit or a master-key read gives. -/
def bearingOutcome (r : PassRequest) (s : State) (ref : SlotRef) (keys : KeyMaterial) (hit fixed : Bool)
    (cache' : List CacheEntry) (reports : List Report) : KeyOutcome :=
  { state := { s with lanes := lanesWithout r s, cache := cache' }, verdict := none, ref := some ref
    keys := keys, hit := hit, corrected := fixed, reports := reports }

theorem findKey_bearing (h : lookup s r = .bearing ref)
    (hk : (hit = false ∧ cache' = s.cache ∧ ProbeMisses s r ref
        ∧ ∃ c, (s.slot ref.slice ref.slot).key = some c ∧ keys = .master c.value
          ∧ ((c.ecc = .clean ∧ fixed = false ∧ reports = [])
            ∨ (c.ecc = .correctable ∧ fixed = true
              ∧ reports = [eccReport .correctedEcc r.lane ref.slice ref.slot])))
      ∨ (hit = true ∧ fixed = false ∧ reports = []
        ∧ ∃ y, ProbeHits s r ref y ∧ cache' = y :: s.cache.erase y
          ∧ keys = .tag y.kAuth y.kWrite)) :
    findKey (unqueue r s) r = bearingOutcome r s ref keys hit fixed cache' reports := by
  rcases hk with ⟨rfl, rfl, hm, c, hc, rfl, hread⟩ | ⟨rfl, rfl, rfl, y, hy, rfl, rfl⟩
  · rw [findKey_miss h hm]
    rcases hread with ⟨he, rfl, rfl⟩ | ⟨he, rfl, rfl⟩
    · rw [masterRead_clean (s := unqueue r s) hc he]
      rfl
    · rw [masterRead_correctable (s := unqueue r s) hc he]
      rfl
  · exact findKey_hit h hy

theorem newestGenOf_bearing {newest : Option Byte} (h : lookup s r = .bearing ref)
    (hn : NewestActive s ref.slice newest) :
    newestGenOf (bearingOutcome r s ref keys hit fixed cache' reports).state r = newest.getD 0xFF := by
  show newestGenOf s r = _
  unfold newestGenOf
  rw [issuerSlice_of_bearing h]
  dsimp only
  rw [newestActive_of_NewestActive hn]

theorem staleGenOf_bearing {newest : Option Byte} (h : lookup s r = .bearing ref)
    (hn : NewestActive s ref.slice newest) :
    staleGenOf (bearingOutcome r s ref keys hit fixed cache' reports).state r
      = decide (newest ≠ some r.gen) := by
  show staleGenOf s r = _
  unfold staleGenOf
  rw [issuerSlice_of_bearing h]
  dsimp only
  rw [newestActive_of_NewestActive hn]
  simp [bne, beq_eq_decide]

end

/-- The full cost of a key-bearing request (R34). -/
theorem fullCost_bearing (r : PassRequest) (hit : Bool) (ev : Option Bytes) :
    fullCost r true hit ev.isSome = (if hit then 0 else 2) + (1 + (8 + r.plen + 1 + 15) / 16)
      + evidencePart ev + (1 + (8 + r.wlen + 1 + 15) / 16) := by
  unfold fullCost deriveBlocks evidenceBlocks evidencePart
  rw [verifyBlocks_eq, writeBlocks_eq, if_pos rfl]
  omega

/-- Its reduced cost (R34). -/
theorem reducedCost_bearing (r : PassRequest) (hit : Bool) (ev : Option Bytes) :
    reducedCost r true hit ev.isSome
      = (if hit then 0 else 2) + (1 + (8 + r.plen + 1 + 15) / 16) + evidencePart ev := rfl

/-- The first stage of a key-bearing request: VERIFY after a hit, DERIVE otherwise (R45). -/
def firstStage (hit : Bool) : Stage := if hit then .verify else .derive

theorem stageBlocksOf_firstStage (r : PassRequest) (hit : Bool) :
    stageBlocksOf r (firstStage hit) = if hit then 1 + (8 + r.plen + 1 + 15) / 16 else 2 := by
  cases hit <;> rfl

theorem stageList_full (hit available : Bool) : ∃ rest, stageList .full hit available
    = firstStage hit :: rest := by cases hit <;> exact ⟨_, rfl⟩

theorem stageList_reduced (hit available : Bool) : ∃ rest, stageList .reduced hit available
    = firstStage hit :: rest := by cases hit <;> exact ⟨_, rfl⟩

/-- Settles O29: the key outcome and the evidence are those of the hypotheses, and the slack admits one of
the two modes or none. -/
theorem dispatchKeyBearing : Obligations.DispatchKeyBearing := by
  unfold Obligations.DispatchKeyBearing
  intro e r ref hit fixed evFixed keys cache' reports evReports ev newest base first s x he hr hl hlook
    hkey hnew hev hfirst hbase
  have hd : Decided r s (bearingOutcome r s ref keys hit fixed cache' reports) ev evFixed evReports x :=
    ⟨findKey_bearing hlook hkey, decideEvidence_of_decided hev⟩
  have hfull : fullCost r true hit ev.isSome = base + (1 + (8 + r.wlen + 1 + 15) / 16) := by
    rw [fullCost_bearing, hbase]
  have hred : reducedCost r true hit ev.isSome = base := by rw [reducedCost_bearing, hbase]
  have hng := newestGenOf_bearing (keys := keys) (hit := hit) (fixed := fixed) (cache' := cache')
    (reports := reports) hlook hnew
  have hsg := staleGenOf_bearing (keys := keys) (hit := hit) (fixed := fixed) (cache' := cache')
    (reports := reports) hlook hnew
  have hblocks : stageBlocksOf r (firstStage hit) = first := by rw [stageBlocksOf_firstStage, hfirst]
  rw [exec_dispatch_chosen he hr]
  rw [← hfull, ← hred]
  refine ⟨fun h => ?_, fun h ha h' => ?_, fun h h' => ?_⟩
  · obtain ⟨rest, hst⟩ := stageList_full hit ev.isSome
    rw [hd.runs (chooseMode_full h) hst, hng, hsg, hblocks, ← hst]
    rfl
  · obtain ⟨rest, hst⟩ := stageList_reduced hit ev.isSome
    rw [hd.runs (chooseMode_reduced h ha h') hst, hng, hsg, hblocks, ← hst]
    rfl
  · rw [hd.late hl (chooseMode_late h (.inr h'))]
    rfl

/-! ## A no-key dispatch -/

/-- The key outcome of a request in the no-key class. -/
def noKeyOutcome (u : State) (v : Verdict) (reports : List Report) : KeyOutcome :=
  { state := u, verdict := some v, ref := none, keys := .absent, hit := false, corrected := false
    reports := reports }

theorem findKey_uncorrectable {r : PassRequest} {s : State} {ref : SlotRef} {c : KeyCell}
    (h : lookup s r = .bearing ref) (hm : ProbeMisses s r ref)
    (hc : (s.slot ref.slice ref.slot).key = some c) (he : c.ecc = .uncorrectable) :
    findKey (unqueue r s) r = noKeyOutcome
      (makeFaulty ref.slice ref.slot { s with lanes := lanesWithout r s }) .keyFault
      [eccReport .uncorrectedEcc r.lane ref.slice ref.slot] := by
  rw [findKey_miss h hm, masterRead_uncorrectable (s := unqueue r s) hc he]
  rfl

/-- The result area of a no-key request completed without evidence (R64, R65). -/
theorem runArea_noKey {w : PassWork} {v : Verdict} (hv : w.verdict = some v) (hm : w.mode = .keyless)
    (hst : w.staleGen = false) (hser : w.serial = none) (hhit : w.cacheHit = false)
    (hecc : w.eccCorrected = false) (hwb : w.wbAuth = none) (hmac : w.evMac = none) (done : Word) :
    runArea w done =
      [verdictCode v, 0x03, if w.request.deadlineClamped then 0x0A else 0x02, w.newestGen]
        ++ List.replicate 20 0x00 ++ leBytes32 done := by
  unfold runArea
  rw [hv, hm, hst, hser, hhit, hecc, hwb, hmac]
  cases w.request.deadlineClamped <;> rfl

/-- A no-key request without evidence that is not late is completed at once (R35, R36). -/
theorem Decided.completes {e : EngineNo} {r : PassRequest} {s u x : State} {v : Verdict}
    {reports evReports : List Report}
    (h : Decided r s (noKeyOutcome u v reports) none false evReports x)
    (hl : (s.lane r.lane).state ≠ .halted) (hd : 0 ≤ (r.deadline - s.gt).toInt) :
    dispatchRequest e r s = raiseReports (reports ++ evReports) { x with
      returnQueue := s.returnQueue ++
        [{ lane := r.lane, cells := r.cells, status := .ok, firstDone := false
           result := [verdictCode v, 0x03, if r.deadlineClamped then 0x0A else 0x02, newestGenOf u r]
             ++ List.replicate 20 0x00 ++ leBytes32 s.gt }] } := by
  have hm : chooseMode r (r.deadline - s.gt).toInt false false false = some .keyless :=
    chooseMode_full (bearing := false) hd
  rw [h.dispatch_runs hm, runRequest_complete e rfl rfl, h.entry_made hl rfl]
  unfold ranEntry
  rw [runArea_noKey (v := v) rfl rfl rfl rfl rfl rfl rfl rfl]
  rfl

/-- Settles O30: the key outcome is the no-key class, by the lookup or by the failed read, and evidence is
all that can be left to run. -/
theorem dispatchNoKey : Obligations.DispatchNoKey := by
  unfold Obligations.DispatchNoKey
  intro e r v newest evFixed reports evReports ev s u x he hr hl hkey hnew hev
  have hd : Decided r s (noKeyOutcome u v reports) ev evFixed evReports x := by
    refine ⟨?_, decideEvidence_of_decided hev⟩
    rcases hkey with ⟨hlook, rfl, rfl⟩ | ⟨ref, c, hlook, hm, hc, hecc, rfl, rfl, rfl⟩
    · exact findKey_noKey hlook
    · exact findKey_uncorrectable hlook hm hc hecc
  have hng : newestGenOf u r = newest := newestGenOf_of_NewestGen hnew
  rw [exec_dispatch_chosen he hr]
  refine ⟨fun key hk => ?_, fun hk => ?_⟩
  · subst hk
    refine ⟨fun h => ?_, fun h => ?_⟩
    · have hng' : newestGenOf (noKeyOutcome u v reports).state r = newest := hng
      rw [hd.runs (m := .keyless) (chooseMode_full (bearing := false) h) rfl, hng']
      rfl
    · exact congrArg _ (hd.late hl (chooseMode_late (bearing := false) h (.inl rfl)))
  · subst hk
    obtain rfl := hev.fixed_of_no_key
    refine ⟨fun h => ?_, fun h => ?_⟩
    · rw [hd.completes hl h, hng]
    · exact congrArg _ (hd.late hl (chooseMode_late (bearing := false) h (.inl rfl)))

end Sys2Proof.Machine
end

section
namespace Sys2Proof.Machine

/-! ## The law of dispatch (R34, R35, R51) -/

/-! ### Stages and costs -/

theorem stageBlocksOf_eq (r : PassRequest) :
    stageBlocksOf r .derive = 2 ∧ stageBlocksOf r .verify = 1 + (8 + r.plen + 1 + 15) / 16
      ∧ stageBlocksOf r .write = 1 + (8 + r.wlen + 1 + 15) / 16 ∧ stageBlocksOf r .evidence = 3 :=
  ⟨rfl, rfl, rfl, rfl⟩

/-- The blocks of a stage list, stage by stage. -/
theorem stageList_blocks (r : PassRequest) (m : Mode) (hit available : Bool) :
    ((stageList m hit available).map (stageBlocksOf r)).sum = match m with
      | .full => fullCost r true hit available
      | .reduced => reducedCost r true hit available
      | .keyless => fullCost r false hit available := by
  cases m <;> cases hit <;> cases available <;>
    simp [stageList, stageBlocksOf, fullCost, reducedCost, deriveBlocks, evidenceBlocks, Nat.add_assoc]

/-- The mode chosen has its cost within the slack, and is REDUCED only where the request allows it. -/
theorem chooseMode_within {r : PassRequest} {slack : Int} {bearing hit available : Bool} {m : Mode}
    (h : chooseMode r slack bearing hit available = some m) :
    ((5 * ((stageList m hit available).map (stageBlocksOf r)).sum : Nat) : Int) ≤ slack
      ∧ (m = .reduced → r.allowReduced = true) := by
  rw [stageList_blocks]
  unfold chooseMode blockTime at h
  split_ifs at h with hfull hb hred
  · cases h
    exact ⟨by rw [hb] at hfull; exact hfull, nofun⟩
  · cases h
    exact ⟨by rw [Bool.eq_false_iff.mpr hb] at hfull; exact hfull, nofun⟩
  · cases h
    simp only [Bool.and_eq_true, decide_eq_true_eq] at hred
    obtain ⟨⟨ha, hb⟩, hcost⟩ := hred
    exact ⟨by rw [hb] at hcost; exact hcost, fun _ => ha⟩

/-- WRITE is a stage of FULL alone (R45). -/
theorem write_mem_stageList (m : Mode) (hit available : Bool) :
    Stage.write ∈ stageList m hit available ↔ m = .full := by
  cases m <;> cases hit <;> cases available <;> decide

/-! ### Serials -/

theorem nextSerial_toNat (s : State) :
    s.nextSerial.toNat = (s.startCount - 1) % 4096 * 2 ^ 20 + s.issueCount.toNat := by
  unfold State.nextSerial State.startPart
  rw [BitVec.toNat_append, ← Nat.shiftLeft_add_eq_or_of_lt s.issueCount.isLt, Nat.shiftLeft_eq,
    BitVec.toNat_ofNat]

/-- Evidence is found only while the serials are not exhausted (R50). -/
theorem not_exhausted_of_evidence {r : PassRequest} {s : State}
    (h : (decideEvidence s r).key.isSome = true) : s.evidenceExhausted = false := by
  unfold decideEvidence at h
  split at h
  · next hw =>
    simp only [Bool.and_eq_true, Bool.not_eq_true'] at hw
    exact hw.2
  · cases h

theorem issueAfter_below {s : State} {key : Bytes} (h : s.issueCount.toNat < 0xFFFFF) :
    (issueAfter s (some key)).toNat = s.issueCount.toNat + 1 := by
  have hne : s.issueCount ≠ 0xFFFFF := fun e => by rw [e] at h; exact absurd h (by decide)
  unfold issueAfter
  rw [if_pos ⟨rfl, hne⟩, BitVec.toNat_add]
  show (s.issueCount.toNat + 1) % 2 ^ 20 = _
  omega

theorem exhaustedAfter_below {s : State} {key : Bytes} (hx : s.evidenceExhausted = false)
    (h : s.issueCount.toNat < 0xFFFFF) : exhaustedAfter s (some key) = false := by
  have hne : s.issueCount ≠ 0xFFFFF := fun e => by rw [e] at h; exact absurd h (by decide)
  unfold exhaustedAfter
  rw [hx, decide_eq_false hne]
  rfl

theorem after_last {s : State} {key : Bytes} (h : s.issueCount.toNat = 0xFFFFF) :
    issueAfter s (some key) = s.issueCount ∧ exhaustedAfter s (some key) = true := by
  have he : s.issueCount = 0xFFFFF := BitVec.eq_of_toNat_eq h
  unfold issueAfter exhaustedAfter
  rw [if_neg fun g => g.2 he, decide_eq_true he]
  exact ⟨rfl, Bool.or_true _⟩

/-! ### The request that a dispatch starts -/

theorem makeEntry_engine (en : ReturnEntry) (s : State) (e : EngineNo) :
    (makeEntry en s).engine e = s.engine e := by
  rw [makeEntry_frame]
  rfl

/-- Reports put no work into an engine. -/
theorem engine_of_raiseReports {rs : List Report} {s : State} {e : EngineNo} {y : EngineWork}
    (h : (raiseReports rs s).engine e = some y) : s.engine e = some y := by
  refine raiseReports_induction (p := fun t => t.engine e = some y → s.engine e = some y)
    (fun _ _ g => g) (fun _ _ g => g) (fun t _ _ g => ?_) rs s id h
  have hnone : (enterFaulted t).engine e = none := by simp [enterFaulted, freezeTraffic, State.engine]
  rw [hnone] at g
  cases g

/-- The work `w` is what a dispatch of request `r` starts from what steps 1 to 5 give: the mode fits the
slack, and with evidence a serial is taken. -/
structure Started (r : PassRequest) (k : KeyOutcome) (ev : EvidenceOutcome) (m : Mode) (w : PassWork)
    (s t : State) : Prop where
  decided : Decided r s k ev.key ev.corrected ev.reports ev.state
  admitted : chooseMode r (r.deadline - s.gt).toInt k.ref.isSome k.hit ev.key.isSome = some m
  work : w = startWork s r k ev m
  stages : w.stages ≠ []
  issueCount : t.issueCount = issueAfter s ev.key
  exhausted : t.evidenceExhausted = exhaustedAfter s ev.key

theorem dispatchRequest_started {f e : EngineNo} {r : PassRequest} {s : State} {w : PassWork}
    (h0 : s.engine e = none) (h1 : (dispatchRequest f r s).engine e = some (.pass w)) :
    ∃ k ev m, Started r k ev m w s (dispatchRequest f r s) := by
  generalize hk : findKey (unqueue r s) r = k
  generalize hev : decideEvidence k.state r = ev
  have hd : Decided r s k ev.key ev.corrected ev.reports ev.state := ⟨hk, hev⟩
  obtain ⟨_, _, _, _, hx⟩ := hd.keyStoreOnly
  have hx0 : ev.state.engine e = none := by rw [hx]; exact h0
  cases hm : chooseMode r (r.deadline - s.gt).toInt k.ref.isSome k.hit ev.key.isSome with
  | none =>
    rw [hd.dispatch_late hm] at h1
    have h1 := engine_of_raiseReports h1
    rw [makeEntry_engine, hx0] at h1
    cases h1
  | some m =>
    have hrun := hd.dispatch_runs (e := f) hm
    have hser : (startWork s r k ev m).serial.isSome = ev.key.isSome := by
      unfold startWork
      cases ev.key <;> rfl
    by_cases hst : (startWork s r k ev m).stages = []
    · rw [hrun] at h1
      have h1 := engine_of_raiseReports h1
      unfold runRequest at h1
      rw [hser, spendSerial_if, if_pos (by rw [hst]; rfl), makeEntry_engine] at h1
      cases hx0.symm.trans h1
    · rw [runRequest_engine f ev.key hser hst] at hrun
      have hw : w = startWork s r k ev m := by
        rw [hrun] at h1
        have h1 := engine_of_raiseReports h1
        rw [State.engine_of_set (s := ev.state) (e := f) rfl, hx0] at h1
        split_ifs at h1
        cases h1
        rfl
      refine ⟨k, ev, m, hd, hm, hw, hw ▸ hst, ?_, ?_⟩
      · rw [hrun, raiseReports_frame, hx]
        rfl
      · rw [hrun, raiseReports_frame, hx]
        rfl

/-- What a dispatch puts into a free engine was started by the dispatch of a request. -/
theorem dispatch_started {e : EngineNo} {w : PassWork} {s t : State} (h : exec .dispatch s = .next t)
    (h0 : s.engine e = none) (h1 : t.engine e = some (.pass w)) :
    ∃ r k ev m, Started r k ev m w s t := by
  have hsame : ∀ u, Host.Outcome.next s = (.next u : Host.Outcome State Fault Refusal) →
      u.engine e ≠ some (.pass w) := by
    rintro u ⟨⟩ hu
    rw [h0] at hu
    cases hu
  change execDispatch s = _ at h
  unfold execDispatch at h
  split at h
  · next f _ _ =>
    split at h
    · next r _ =>
      cases h
      exact ⟨r, dispatchRequest_started h0 h1⟩
    · split at h
      · split_ifs at h
        · cases h
          rw [State.engine_of_set (s := s) (e := f) rfl, h0] at h1
          split_ifs at h1
          cases h1
        · exact absurd h1 (hsame t h)
      · exact absurd h1 (hsame t h)
  · exact absurd h1 (hsame t h)

section
variable {r : PassRequest} {k : KeyOutcome} {ev : EvidenceOutcome} {m : Mode} {w : PassWork} {s t : State}

theorem Started.first_stage (h : Started r k ev m w s t) : ∃ st rest, w.stages = st :: rest
    ∧ w.stageEnd = s.gt + BitVec.ofNat 32 (5 * stageBlocksOf w.request st) := by
  have hne := h.stages
  obtain rfl := h.work
  obtain ⟨st, rest, hst⟩ := List.exists_cons_of_ne_nil hne
  have hlist : stageList m k.hit ev.key.isSome = st :: rest := hst
  refine ⟨st, rest, hst, ?_⟩
  unfold startWork
  rw [hlist]
  rfl

/-- A serial taken is the present one, and evidence was decided on. -/
theorem Started.serial (h : Started r k ev m w s t) {v : Word} (hv : w.serial = some v) :
    v = s.nextSerial ∧ s.evidenceExhausted = false ∧ ∃ key, ev.key = some key := by
  obtain rfl := h.work
  change (if ev.key.isSome then some ev.state.nextSerial else none) = some v at hv
  split_ifs at hv with hkey
  · cases hv
    obtain ⟨_, _, _, _, hx⟩ := h.decided.keyStoreOnly
    obtain ⟨_, _, _, _, hks⟩ := findKey_keyStoreOnly (unqueue r s) r
    refine ⟨by rw [hx]; rfl, ?_, Option.isSome_iff_exists.mp hkey⟩
    have hexh := not_exhausted_of_evidence (r := r) (s := k.state) (by rw [h.decided.evidence]; exact hkey)
    rw [← h.decided.key, hks] at hexh
    exact hexh

end

/-- Settles O32: whatever a dispatch starts was admitted by its slack, and its serial is the present one. -/
theorem lawOfDispatch : Obligations.LawOfDispatch := by
  unfold Obligations.LawOfDispatch
  refine ⟨fun e w s t h h0 h1 => ?_, fun e w v s t h h0 h1 hv => ?_, stageBlocksOf_eq⟩
  · obtain ⟨r, k, ev, m, hs⟩ := dispatch_started h h0 h1
    obtain ⟨hcost, hred⟩ := chooseMode_within hs.admitted
    have hne := hs.stages
    have hfirst := hs.first_stage
    obtain rfl := hs.work
    exact ⟨hcost, hne, rfl, hred, write_mem_stageList m k.hit ev.key.isSome, hfirst⟩
  · obtain ⟨r, k, ev, m, hs⟩ := dispatch_started h h0 h1
    obtain ⟨rfl, hexh, key, hkey⟩ := hs.serial hv
    rw [hs.issueCount, hs.exhausted, hkey]
    exact ⟨nextSerial_toNat s, hexh, fun hlt => ⟨issueAfter_below hlt, exhaustedAfter_below hexh hlt⟩,
      after_last⟩

end Sys2Proof.Machine
end

section
namespace Sys2Proof.Machine

/-! ## The lookup (R46, R47) -/

section
variable {s : State} {r : PassRequest} {n : SliceNo} {k : SlotNo} {g : Byte}

theorem lookup_of_no_slice (h : s.issuerSlice r.issuer = none) : lookup s r = .noKey .unknownIssuer := by
  unfold lookup
  rw [h]

theorem lookup_of_boundTo (h0 : r.issuer ≠ 0) (h : BoundTo s r.issuer n) :
    lookup s r = genLookup s n r.gen := by
  unfold lookup State.issuerSlice
  rw [if_neg h0, sliceOf_of_boundTo h]

/-- An issuer that is 0x0000 or bound to no slice is not found. -/
theorem issuerSlice_eq_none {issuer : Half} (h : issuer = 0 ∨ Unbound s issuer) :
    s.issuerSlice issuer = none := by
  unfold State.issuerSlice
  rcases h with h | h
  · exact if_pos h
  · rw [sliceOf_of_unbound h, ite_self]

theorem slotOfGen_of_carries (h : Carries s n k g) : s.slotOfGen n g = some k :=
  find?_of_unique (mem_allSlots k) (by simp [h.1]) fun j hj => h.2 j (by simpa using hj)

theorem slotOfGen_of_carriedByNone (h : CarriedByNone s n g) : s.slotOfGen n g = none :=
  List.find?_eq_none.mpr fun k _ hk => h k (by simpa using hk)

theorem lowestBlank_isSome_iff :
    (s.lowestBlank n).isSome = true ↔ ∃ k, (s.slot n k).state = .faulty ∧ (s.slot n k).info = none := by
  simp [State.lowestBlank, Slot.faultyBlank, mem_allSlots]

/-- With no slot of the generation, a FAULTY slot without a generation makes the difference. -/
theorem genLookup_of_carriedByNone (h : CarriedByNone s n g) :
    genLookup s n g = if (s.lowestBlank n).isSome then .noKey .keyFault else .noKey .unknownKey := by
  unfold genLookup
  rw [slotOfGen_of_carriedByNone h]

end

/-- Settles O28: the issuer is not found, or its slice has no slot of the generation, or the state of the
slot that carries it decides. -/
theorem lookupVerdicts : Obligations.LookupVerdicts := by
  unfold Obligations.LookupVerdicts
  refine fun r s => ⟨fun h => lookup_of_no_slice (issuerSlice_eq_none h), fun n h0 hb => ?_⟩
  rw [lookup_of_boundTo h0 hb]
  refine ⟨fun hnone => ?_, fun k hk => ?_⟩
  · rw [genLookup_of_carriedByNone hnone]
    exact ⟨fun h => if_neg fun hs => (lowestBlank_isSome_iff.mp hs).elim h,
      fun h => if_pos (lowestBlank_isSome_iff.mpr h)⟩
  · have hgen := slotOfGen_of_carries hk
    refine ⟨fun h => ?staged, fun h => ?expired, fun h => ?revoked, fun h => ?faulty, fun h => ?serving⟩
    case serving => rcases h with h | h <;> simp only [genLookup, hgen, h]
    all_goals simp only [genLookup, hgen, h]

end Sys2Proof.Machine
end

section
namespace Sys2Proof.Machine

/-! ## Damage to key RAM (R77) -/

theorem exec_keyRamDamage (n : SliceNo) (k : SlotNo) (d : Damage) (s : State) :
    exec (.keyRamDamage n k d) s = .next (s.setSlot n k
      { s.slot n k with key := (s.slot n k).key.map fun c => { c with ecc := damagedEcc d } }) := rfl

theorem damagedEcc_eq (d : Damage) :
    damagedEcc d = if d = .correctable then Ecc.correctable else Ecc.uncorrectable := by
  cases d <;> rfl

/-- A slot set to what it holds leaves the state as it stands. -/
theorem setSlot_self (s : State) (n : SliceNo) (k : SlotNo) : s.setSlot n k (s.slot n k) = s := by
  simp [State.setSlot, State.slot]

/-- A slot without a key value has none to damage (log entry 10). -/
theorem exec_keyRamDamage_unkeyed {n : SliceNo} {k : SlotNo} {s : State} (h : (s.slot n k).key = none)
    (d : Damage) : exec (.keyRamDamage n k d) s = .next s := by
  have hself : { s.slot n k with key := none } = s.slot n k := by rw [← h]
  rw [exec_keyRamDamage, h, Option.map_none, hself, setSlot_self]

/-- Damage reaches one key value: later reads of it, and of no other, report it. -/
theorem exec_keyRamDamage_keyed {n : SliceNo} {k : SlotNo} {c : KeyCell} {s : State}
    (h : (s.slot n k).key = some c) (d : Damage) :
    ∃ slices', exec (.keyRamDamage n k d) s = .next { s with slices := slices' }
      ∧ (slices'[n])[k] = { s.slot n k with
          key := some { c with
            ecc := if d = .correctable then Ecc.correctable else Ecc.uncorrectable } }
      ∧ ∀ m j, (m, j) ≠ (n, k) → (slices'[m])[j] = s.slot m j := by
  refine ⟨_, exec_keyRamDamage n k d s, ?_, fun m j hne => ?_⟩
  · refine (State.slot_setSlot s n n k k _).trans ?_
    rw [if_pos ⟨rfl, rfl⟩, h, Option.map_some, damagedEcc_eq]
  · refine (State.slot_setSlot s n m k j _).trans (if_neg ?_)
    rintro ⟨rfl, rfl⟩
    exact hne rfl

/-! ## The uncorrectable master-key read (R77, R84, R86, R121) -/

theorem makeFaulty_nvmOp (n : SliceNo) (k : SlotNo) (s : State) :
    (makeFaulty n k s).nvmOp = remarkSlice n s.nvmOp := rfl

/-- A COMMIT of the slice in flight is re-marked. -/
theorem remarkSlice_of_commit {n : SliceNo} {code : Half} {o : NvmRecord} {q : CommitOp}
    (ho : o.op = .commit q) (hq : q.target = .slice n code) :
    remarkSlice n (some o) = some { o with op := .commit { q with remark := true } } := by
  simp [remarkSlice, ho, hq]

/-- With no COMMIT of the slice in flight the operation stands. -/
theorem remarkSlice_of_other {n : SliceNo} {o : Option NvmRecord}
    (h : ∀ r q code, o = some r → r.op = .commit q → q.target ≠ .slice n code) :
    remarkSlice n o = o := by
  unfold remarkSlice
  split
  · rfl
  · next r =>
    split
    · next q hq =>
      split
      · next m code ht =>
        exact congrArg some (if_neg fun hm : m = n => h r q code rfl hq (hm ▸ ht))
      · rfl
    · rfl
    · rfl

theorem makeFaulty_binding (n m : SliceNo) (k : SlotNo) (s : State) :
    (makeFaulty n k s).binding m =
      if m = n then (s.binding n).map (fun b => { b with dirty := true }) else s.binding m :=
  markSliceDirty_binding n m _

/-- Settles O31: damage changes one key cell, and the read that finds an uncorrectable one is the no-key
dispatch of a slot that has become FAULTY. -/
theorem keyRamDamage : Obligations.KeyRamDamage := by
  unfold Obligations.KeyRamDamage
  refine ⟨fun n k d s =>
    ⟨fun h => exec_keyRamDamage_unkeyed h d, fun c h => exec_keyRamDamage_keyed h d⟩, ?_⟩
  intro e r ref c s he hr hl hlook hmiss hc hecc hev hslack
  generalize hu : makeFaulty ref.slice ref.slot { s with lanes := lanesWithout r s } = u
  have hd : Decided r s (noKeyOutcome u .keyFault [eccReport .uncorrectedEcc r.lane ref.slice ref.slot])
      none false [] u :=
    ⟨hu ▸ findKey_uncorrectable hlook hmiss hc hecc,
      decideEvidence_of_decided (.inl ⟨.inl hev, rfl, rfl, rfl, rfl⟩)⟩
  refine ⟨_, (exec_dispatch_chosen he hr).trans (congrArg _ (hd.completes hl hslack)), ?_⟩
  subst hu
  refine ⟨rfl, ?_, fun n k hne => ?_, rfl, fun b hb => ?_, fun n hn => ?_, ?_, ?_,
    _, rfl, rfl, rfl, rfl, rfl⟩
  · exact (makeFaulty_slot ..).trans (if_pos ⟨rfl, rfl⟩)
  · refine (makeFaulty_slot ..).trans (if_neg ?_)
    rintro ⟨rfl, rfl⟩
    exact hne rfl
  · refine (makeFaulty_binding ..).trans ((if_pos rfl).trans ?_)
    exact congrArg _ hb
  · exact (makeFaulty_binding ..).trans (if_neg hn)
  · intro o q code ho hop hq
    refine (makeFaulty_nvmOp ..).trans ?_
    show remarkSlice _ s.nvmOp = _
    rw [ho, remarkSlice_of_commit hop hq]
  · exact fun h => (makeFaulty_nvmOp ..).trans (remarkSlice_of_other h)

end Sys2Proof.Machine
end

section
namespace Sys2Proof.Machine

/-! ## LKMAC (R55) -/

/-- The block Xi of the chain over a padded message, from X0 (R55). -/
def lkmacState (key padded x0 : Bytes) : Nat → Bytes
  | 0 => x0
  | i + 1 => blockE key (xorBlock (lkmacState key padded x0 i) (bytesAt padded (16 * i) 16))

/-- The model's chain over `n` blocks from block `i` on goes from Xi to Xi+n. -/
theorem lkmacChain_lkmacState (key padded x0 : Bytes) (n i : Nat) :
    lkmacChain key padded n i (lkmacState key padded x0 i) = lkmacState key padded x0 (i + n) := by
  induction n generalizing i with
  | zero => rfl
  | succ n ih =>
    calc lkmacChain key padded (n + 1) i (lkmacState key padded x0 i)
        = lkmacChain key padded n (i + 1) (lkmacState key padded x0 (i + 1)) := rfl
      _ = lkmacState key padded x0 (i + 1 + n) := ih (i + 1)
      _ = lkmacState key padded x0 (i + (n + 1)) := by rw [Nat.add_right_comm, Nat.add_assoc]

theorem lkmac_eq (key header m : Bytes) : lkmac key header m =
    (lkmacState key (lkmacPad m) (blockE key header) (lkmacBlocks m.length)).take 8 := by
  unfold lkmac
  rw [← Nat.zero_add (lkmacBlocks m.length), ← lkmacChain_lkmacState, Nat.zero_add]
  rfl

/-! ### The padding (R55, step 1) -/

theorem lkmacPad_length (m : Bytes) : (lkmacPad m).length = 16 * lkmacBlocks m.length := by
  unfold lkmacPad lkmacBlocks ceilDiv16
  simp only [List.length_append, List.length_singleton, List.length_replicate]
  omega

theorem lkmacPad_take (m : Bytes) : (lkmacPad m).take m.length = m := by
  unfold lkmacPad
  rw [List.append_assoc, List.take_left]

theorem byteAt_lkmacPad_self (m : Bytes) : byteAt (lkmacPad m) m.length = 0x80 := by
  simp [byteAt, lkmacPad]

theorem byteAt_lkmacPad_of_gt {m : Bytes} {i : Nat} (h : m.length < i) : byteAt (lkmacPad m) i = 0x00 := by
  obtain ⟨j, rfl⟩ := Nat.exists_eq_add_of_lt h
  unfold byteAt lkmacPad
  rw [List.append_assoc, List.getD_append_right _ _ _ _ (by omega),
    show m.length + j + 1 - m.length = j + 1 by omega]
  by_cases hj : j < 16 * lkmacBlocks m.length - (m.length + 1)
  · exact List.getD_replicate _ hj
  · exact List.getD_eq_default _ _ (by simpa using hj)

end Sys2Proof.Machine

namespace Sys2Proof
open Machine

/-- Settles O36: the padded message and the blocks Xi are the model's own. Its name is taken by the model's
function inside `Machine`. -/
theorem lkmacChain : Obligations.LkmacChain := by
  unfold Obligations.LkmacChain
  exact fun key header m => ⟨lkmacPad m, lkmacState key (lkmacPad m) (blockE key header),
    lkmacBlocks m.length, rfl, lkmacPad_length m, lkmacPad_take m, byteAt_lkmacPad_self m,
    fun _ => byteAt_lkmacPad_of_gt, rfl, fun _ _ => rfl, lkmac_eq key header m⟩

end Sys2Proof
end

section
namespace Sys2Proof.Machine

/-! ## The stages of an engine (R56 to R63) -/

section
variable {s : State} {e : EngineNo} {w : PassWork} {st : Stage} {rest : List Stage}

theorem workAt_of_engine (h : s.engine e = some (.pass w)) (hst : w.stages = st :: rest) :
    s.workAt e st = some w := by
  unfold State.workAt
  rw [h]
  exact if_pos (by rw [hst]; rfl)

/-- The next stage starts at once (R58). -/
theorem nextStage_cons (hst : w.stages.tail = st :: rest) : nextStage e w s = atStage e w st rest s := by
  unfold nextStage
  rw [hst]
  rfl

/-- After the last stage the request completes and its engine is free (R63). -/
theorem nextStage_nil (hst : w.stages.tail = []) : nextStage e w s = makeEntry
    { lane := w.request.lane, cells := w.request.cells, status := ranStatus w.mode
      result := runArea { w with stages := [] } s.gt, firstDone := false }
    { s with engines := s.engines.set e none } := by
  unfold nextStage
  rw [hst]
  rfl

section
variable (h : s.engine e = some (.pass w)) (hgt : 0 ≤ (w.stageEnd - s.gt).toInt)
include h hgt

theorem exec_deriveComplete (hst : w.stages = .derive :: rest) :
    exec (.deriveComplete e) s = .next (nextStage e { w with keys := derivedKeys w }
      (makeOffer w (derivedKeys w) { s with gt := w.stageEnd })) := by
  show execDeriveComplete e s = _
  unfold execDeriveComplete
  rw [workAt_of_engine h hst, ← runTo_of_ahead s _ hgt]

theorem exec_verifyComplete (hst : w.stages = .verify :: rest) :
    exec (.verifyComplete e) s = .next (nextStage e
      { w with
        verdict := some (verifyVerdict w)
        stages := stagesAfterVerify (verifyVerdict w) (.verify :: rest) }
      { s with gt := w.stageEnd }) := by
  show execVerifyComplete e s = _
  unfold execVerifyComplete
  rw [workAt_of_engine h hst, ← runTo_of_ahead s _ hgt, ← hst]

theorem exec_writeComplete (hst : w.stages = .write :: rest) :
    exec (.writeComplete e) s = .next (nextStage e { w with wbAuth := some (writeAuthenticator w) }
      { s with gt := w.stageEnd }) := by
  show execWriteComplete e s = _
  unfold execWriteComplete
  rw [workAt_of_engine h hst, ← runTo_of_ahead s _ hgt]

theorem exec_evidenceComplete (hst : w.stages = .evidence :: rest) :
    exec (.evidenceComplete e) s = .next (nextStage e
      { w with evMac := some (evidenceMac (s.gantryId.getD 0) w) } { s with gt := w.stageEnd }) := by
  show execEvidenceComplete e s = _
  unfold execEvidenceComplete
  rw [workAt_of_engine h hst, ← runTo_of_ahead s _ hgt]

end

/-! ### DERIVE (R57, R59, R117 to R119) -/

theorem derivedKeys_of_master {m : Bytes} (hk : w.keys = .master m) :
    derivedKeys w = .tag (deriveAuth m w.request.issuer w.request.gen w.request.tagId)
      (deriveWrite m w.request.issuer w.request.gen w.request.tagId) := by
  unfold derivedKeys
  rw [hk]
  rfl

/-- An offer writes the cache alone, and only at the captured epoch (R118, R119). -/
theorem makeOffer_cache {ref : SlotRef} (hr : w.ref = some ref) (ka kw : Bytes) (u : State) :
    makeOffer w (.tag ka kw) u = { u with
      cache :=
        if (u.slot ref.slice ref.slot).epoch = ref.epoch then
          cacheInsert
            { issuer := w.request.issuer, gen := w.request.gen, tagId := w.request.tagId, ref := ref
              kAuth := ka, kWrite := kw } u.cache
        else u.cache } := by
  unfold makeOffer
  rw [hr]
  show (if (u.slot ref.slice ref.slot).epoch = ref.epoch then _ else u) = _
  split_ifs <;> rfl

end

/-- Settles O33: the derived keys are offered at the stage's end, and VERIFY is the next stage. -/
theorem deriveCompletes : Obligations.DeriveCompletes := by
  unfold Obligations.DeriveCompletes
  rintro e w ref m rest x s h hst hk hr hgt rfl
  rw [exec_deriveComplete h hgt hst, derivedKeys_of_master hk, makeOffer_cache hr,
    nextStage_cons (by rw [hst]; rfl)]
  rfl

/-! ### VERIFY (R56, R60) -/

section
variable {w : PassWork} {ka kw : Bytes}

/-- The authenticator that VERIFY computes over the challenge and the payload. -/
theorem tagAuthenticator_of_keys (hk : w.keys = .tag ka kw) : tagAuthenticator w =
    lkmac ka (lkmacHeader 0x11 w.request.issuer w.request.gen w.request.tagId (8 + w.request.plen)
        w.request.lane)
      (bytesAt w.request.challenge 0 8 ++ w.request.message.take w.request.plen) := by
  unfold tagAuthenticator
  rw [hk]
  rfl

theorem writeAuthenticator_of_keys (hk : w.keys = .tag ka kw) : writeAuthenticator w =
    lkmac kw (lkmacHeader 0x12 w.request.issuer w.request.gen w.request.tagId (8 + w.request.wlen)
        w.request.lane)
      (bytesAt w.request.tagAuth 0 8
        ++ (w.request.message.drop w.request.plen).take w.request.wlen) := by
  unfold writeAuthenticator
  rw [hk]
  rfl

theorem verifyVerdict_accept (h : tagAuthenticator w = w.request.tagAuth) :
    verifyVerdict w = .accept := if_pos h

theorem verifyVerdict_reject (h : tagAuthenticator w ≠ w.request.tagAuth) :
    verifyVerdict w = .rejectAuth := if_neg h

end

/-- What VERIFY leaves to run: WRITE goes on REJECT_AUTH. -/
theorem stagesAfterVerify_tail {v : Verdict} {rest rest' : List Stage}
    (h : v = .accept ∧ rest' = rest
      ∨ v = .rejectAuth ∧ rest' = rest.filter (fun st => st != .write)) :
    (stagesAfterVerify v (.verify :: rest)).tail = rest' := by
  rcases h with ⟨rfl, rfl⟩ | ⟨rfl, rfl⟩ <;> rfl

/-- The two bytes of a length, most significant first. -/
theorem beBytes16_ofNat (len : Nat) :
    beBytes16 (BitVec.ofNat 16 len) = [BitVec.ofNat 8 (len / 256), BitVec.ofNat 8 len] := by
  have hhi : (BitVec.ofNat 16 len).extractLsb' 8 8 = BitVec.ofNat 8 (len / 256) := by
    apply BitVec.eq_of_toNat_eq
    simp only [BitVec.extractLsb'_toNat, BitVec.toNat_ofNat, Nat.shiftRight_eq_div_pow]
    omega
  have hlo : (BitVec.ofNat 16 len).extractLsb' 0 8 = BitVec.ofNat 8 len := by
    apply BitVec.eq_of_toNat_eq
    simp only [BitVec.extractLsb'_toNat, BitVec.toNat_ofNat, Nat.shiftRight_zero]
    omega
  unfold beBytes16
  rw [hhi, hlo]

theorem lkmacHeader_bytes (domain : Byte) (issuer : Half) (gen : Byte) (tagId : Bytes) (len : Nat)
    (lane : LaneNo) : lkmacHeader domain issuer gen tagId len lane =
      [domain, issuer.extractLsb' 8 8, issuer.extractLsb' 0 8, gen,
        byteAt tagId 0, byteAt tagId 1, byteAt tagId 2, byteAt tagId 3,
        byteAt tagId 4, byteAt tagId 5, byteAt tagId 6, byteAt tagId 7,
        BitVec.ofNat 8 (len / 256), BitVec.ofNat 8 len, BitVec.ofNat 8 lane.val, 0x00] := by
  unfold lkmacHeader
  rw [beBytes16_ofNat]
  rfl

/-- Settles O34: the comparison decides the verdict, and the verdict what is left to run. -/
theorem verifyCompletes : Obligations.VerifyCompletes := by
  unfold Obligations.VerifyCompletes
  refine ⟨fun e w ka kw rest rest' v s h hst hk hgt hv => ?_, lkmacHeader_bytes⟩
  rw [← tagAuthenticator_of_keys hk] at hv
  have hverdict : verifyVerdict w = v := by
    rcases hv with ⟨ha, rfl, _⟩ | ⟨ha, rfl, _⟩
    · exact verifyVerdict_accept ha
    · exact verifyVerdict_reject ha
  have htail := stagesAfterVerify_tail (hv.imp And.right And.right)
  rw [exec_verifyComplete h hgt hst, hverdict]
  refine ⟨fun st tail hrest => ?_, fun hrest => ?_⟩
  · rw [nextStage_cons (htail.trans hrest)]
    rfl
  · rw [nextStage_nil (htail.trans hrest)]

/-! ### WRITE and EVIDENCE (R61 to R63) -/

/-- EV_MAC is the LKMAC over the evidence message, whose 27 bytes are written out (R62). -/
theorem evidenceMac_of_fields {gantry serial : Word} {w : PassWork} {v : Verdict} {key : Bytes}
    (hk : w.evidenceKey = some key) (hv : w.verdict = some v) (hs : w.serial = some serial) :
    evidenceMac gantry w = lkmac key
      (lkmacHeader 0x13 w.request.issuer w.request.gen w.request.tagId 27 w.request.lane)
      (beBytes32 gantry ++ [BitVec.ofNat 8 w.request.lane.val, verdictCode v, modeCode w.mode]
        ++ beBytes32 w.request.entryTime ++ beBytes32 w.dispatchGt ++ beBytes32 serial
        ++ bytesAt w.request.tagAuth 0 8) := by
  unfold evidenceMac evidenceMessage
  rw [hk, hv, hs]
  rfl

/-- Settles O35: each stage's authenticator, and then the next stage or the completion. -/
theorem writeAndEvidenceComplete : Obligations.WriteAndEvidenceComplete := by
  unfold Obligations.WriteAndEvidenceComplete
  constructor
  · intro e w ka kw auth rest s h hst hk hgt hauth
    rw [← writeAuthenticator_of_keys hk] at hauth
    rw [exec_writeComplete h hgt hst, ← hauth]
    refine ⟨fun st tail hrest => ?_, fun hrest => ?_⟩
    · rw [nextStage_cons (by rw [hst]; exact hrest)]
    · rw [nextStage_nil (by rw [hst]; exact hrest)]
  · intro e w gantry serial v key s h hst hk hv hserial hg hgt
    rw [exec_evidenceComplete h hgt hst, hg, Option.getD_some, evidenceMac_of_fields hk hv hserial,
      nextStage_nil (by rw [hst]; rfl)]

end Sys2Proof.Machine
end

section
namespace Sys2Proof.Machine

/-! ## The start counter (R138) -/

/-! ### Words as a sector read gives them -/

theorem byteAt_readSector (m : List Host.Cell) (sec : Nat) {i : Nat} (h : i < 512) :
    byteAt (readSector m sec) i = nvmGet m (512 * sec + i) := by
  simp [byteAt, readSector, sectorBytes, h]

/-- Four bytes joined in halves are the four bytes joined one by one. -/
theorem append_halves (a b c d : Byte) :
    ((a ++ b : Half) ++ (c ++ d : Half) : Word) = a ++ b ++ c ++ d := by
  apply BitVec.eq_of_getLsbD_eq
  intro i _
  simp only [BitVec.getLsbD_append]
  split_ifs
  any_goals rfl
  all_goals omega

/-- The words of a sector read are the array's words. -/
theorem le32_readSector (m : List Host.Cell) (sec : Nat) {k : Nat} (h : k < 128) :
    le32 (readSector m sec) (4 * k) = nvmWord m sec k := by
  unfold le32 le16
  rw [append_halves, byteAt_readSector _ _ (by omega), byteAt_readSector _ _ (by omega),
    byteAt_readSector _ _ (by omega), byteAt_readSector _ _ (by omega)]
  rfl

/-! ### The lowest 1 bit -/

/-- A number whose lowest 1 bit is bit `j`. -/
theorem eq_of_lowest_bit {w j : Nat} (hj : w.testBit j = true)
    (hlow : ∀ i, i < j → w.testBit i = false) : w = 2 ^ (j + 1) * (w / 2 ^ (j + 1)) + 2 ^ j := by
  have hmod : w % 2 ^ (j + 1) = 2 ^ j := Nat.eq_of_testBit_eq fun i => by
    rw [Nat.testBit_mod_two_pow, Nat.testBit_two_pow]
    rcases Nat.lt_trichotomy i j with h | rfl | h
    · simp [hlow i h, h.ne']
    · simp [hj]
    · simp [h.ne, Nat.not_lt.mpr h]
  calc w = 2 ^ (j + 1) * (w / 2 ^ (j + 1)) + w % 2 ^ (j + 1) := (Nat.div_add_mod ..).symm
    _ = _ := by rw [hmod]

/-- Subtracting 1 from a word turns its lowest 1 bit and the 0 bits below it, so that the AND of the two
lacks that bit only. -/
theorem clearLowest_getLsbD {w : Word} {j : Nat} (hj : w.getLsbD j = true)
    (hlow : ∀ i, i < j → w.getLsbD i = false) (i : Nat) :
    (clearLowest w).getLsbD i = (w.getLsbD i && decide (i ≠ j)) := by
  have hw := eq_of_lowest_bit hj hlow
  generalize w.toNat / 2 ^ (j + 1) = q at hw
  have hpos : 1 ≤ 2 ^ j := Nat.one_le_two_pow
  have hlt : 2 ^ j < 2 ^ (j + 1) := Nat.pow_lt_pow_right (by omega) (by omega)
  have hpred : (w - 1).toNat = 2 ^ (j + 1) * q + (2 ^ j - 1) := by
    rw [BitVec.toNat_sub_of_le (BitVec.le_def.mpr (by rw [hw]; exact hpos.trans (Nat.le_add_left ..))), hw]
    exact Nat.add_sub_assoc hpos _
  unfold clearLowest BitVec.getLsbD
  rw [BitVec.toNat_and, Nat.testBit_and, hpred, hw, Nat.testBit_two_pow_mul_add _ hlt,
    Nat.testBit_two_pow_mul_add _ (by omega), Nat.testBit_two_pow, Nat.testBit_two_pow_sub_one]
  by_cases h : i < j + 1
  · by_cases hij : i = j <;> simp [h, hij, Ne.symm]
  · have hij : i ≠ j := by omega
    simp [h, hij]

/-! ### The count -/

theorem zeroBits_eq (w : Word) :
    zeroBits w = ((List.range 32).filter fun b => !w.getLsbD b).length := List.countP_eq_length_filter

theorem zeroBits_zero : zeroBits 0 = 32 := by decide

theorem zeroBits_le (w : Word) : zeroBits w ≤ 32 := by
  simpa [zeroBits] using List.countP_le_length (p := fun j => !w.getLsbD j) (l := List.range 32)

theorem zeroBits_lt {w : Word} {j : Nat} (hj : w.getLsbD j = true) : zeroBits w < 32 := by
  have hlt : j < 32 := BitVec.lt_of_getLsbD hj
  refine (zeroBits_le w).lt_of_ne fun h => ?_
  have hall := List.countP_eq_length.mp (h.trans List.length_range.symm)
  simpa [hj] using hall j (List.mem_range.mpr hlt)

/-- The count of a sector read is that of the array's words. -/
theorem startsCounted_readSector (m : List Host.Cell) : startsCounted (readSector m 1) =
    ((List.range 128).map fun i => zeroBits (nvmWord m 1 i)).sum := by
  unfold startsCounted
  refine congrArg _ (List.map_congr_left fun i hi => ?_)
  rw [le32_readSector _ _ (List.mem_range.mp hi)]

/-- With a 1 bit left the counter is not full. -/
theorem startsCounted_lt {m : List Host.Cell} {k j : Nat} (hk : k < 128)
    (hj : (nvmWord m 1 k).getLsbD j = true) : startsCounted (readSector m 1) < startCounterBits := by
  rw [startsCounted_readSector]
  calc ((List.range 128).map fun i => zeroBits (nvmWord m 1 i)).sum
      < ((List.range 128).map fun _ => 32).sum :=
        List.sum_lt_sum _ _ (fun i _ => zeroBits_le _) ⟨k, List.mem_range.mpr hk, zeroBits_lt hj⟩
    _ = startCounterBits := by rw [List.map_const', List.sum_replicate, List.length_range]; rfl

theorem startsCounted_full {m : List Host.Cell} (h : ∀ k, k < 128 → nvmWord m 1 k = 0) :
    startsCounted (readSector m 1) = startCounterBits := by
  rw [startsCounted_readSector]
  calc ((List.range 128).map fun i => zeroBits (nvmWord m 1 i)).sum
      = ((List.range 128).map fun _ => 32).sum :=
        congrArg _ (List.map_congr_left fun i hi => by rw [h i (List.mem_range.mp hi), zeroBits_zero])
    _ = startCounterBits := by rw [List.map_const', List.sum_replicate, List.length_range]; rfl

/-- The word of the lowest 1 bit is the first that is not 0. -/
theorem startWord_readSector {m : List Host.Cell} {k j : Nat} (hk : k < 128)
    (hj : (nvmWord m 1 k).getLsbD j = true) (hlow : ∀ i, i < k → nvmWord m 1 i = 0) :
    startWord (readSector m 1) = k := by
  have hne : nvmWord m 1 k ≠ 0 := fun h => by simp [h] at hj
  have hfind : (List.range 128).find? (fun i => le32 (readSector m 1) (4 * i) != 0) = some k := by
    refine find?_eq_of_least (key := id) List.pairwise_lt_range (List.mem_range.mpr hk)
      (by simpa [le32_readSector _ _ hk] using hne) fun i hi hp => ?_
    rw [le32_readSector _ _ (List.mem_range.mp hi)] at hp
    by_contra hlt
    simp [hlow i (Nat.not_le.mp hlt)] at hp
  unfold startWord
  rw [hfind]
  rfl

/-! ### Steps 2 and 3 -/

section
variable {e : Word} {s : State} (hgt : 0 ≤ (e - s.gt).toInt)
include hgt

theorem loadAt_of_load {st : LoadStep} (h : s.load = some { step := st, stepEnd := e }) :
    s.loadAt st = some { s with gt := e } := by
  rw [← runTo_of_ahead s e hgt]
  unfold State.loadAt
  rw [h]
  exact if_pos rfl

section
variable (hload : s.load = some { step := .counterRead, stepEnd := e })
include hload

/-- Below the full count the lowest 1 bit is cleared by a word program. -/
theorem exec_startCounterReadEnd_counts (h : startsCounted (readSector s.nvm 1) < startCounterBits) :
    exec .startCounterReadEnd s = .next { s with
      gt := e, load := some { step := .counterProgram, stepEnd := e + 20 }
      nvmOp := some
        { op := .startCount (startWord (readSector s.nvm 1))
            (clearLowest (le32 (readSector s.nvm 1) (4 * startWord (readSector s.nvm 1))))
            (startsCounted (readSector s.nvm 1))
          startGt := e, stepEnd := e + 20 } } := by
  show execStartCounterReadEnd s = _
  unfold execStartCounterReadEnd
  rw [loadAt_of_load hgt hload]
  exact if_pos h

/-- A full counter counts no more, and evidence is exhausted. -/
theorem exec_startCounterReadEnd_full (h : startsCounted (readSector s.nvm 1) = startCounterBits) :
    exec .startCounterReadEnd s = .next { s with
      gt := e, load := some { step := .directoryRead, stepEnd := e + 40 }
      startCount := 4096, evidenceExhausted := true } := by
  show execStartCounterReadEnd s = _
  unfold execStartCounterReadEnd
  rw [loadAt_of_load hgt hload]
  exact if_neg (Nat.not_lt.mpr h.ge)

end

section
variable {k count : Nat} {v g : Word}
  (hop : s.nvmOp = some { op := .startCount k v count, startGt := g, stepEnd := e })
include hop

theorem exec_startCountProgramEnd_success :
    exec (.startCountProgramEnd .success) s = .next (afterStartCount { s with
      gt := e, nvm := programWord s.nvm 1 k v, nvmOp := none, startCount := count + 1 }) := by
  show execStartCountProgramEnd .success s = _
  unfold execStartCountProgramEnd
  rw [hop]
  dsimp only
  rw [runTo_of_ahead s e hgt]

theorem exec_startCountProgramEnd_failure :
    exec (.startCountProgramEnd .failure) s = .next (afterStartCount (raiseReport (nvmReport none)
      { s with
        gt := e, nvm := programWordPart s.nvm 1 k v (Config.freeMask s.freeIndex), nvmOp := none
        freeIndex := s.freeIndex + 1, startCount := count + 1, evidenceExhausted := true })) := by
  show execStartCountProgramEnd .failure s = _
  unfold execStartCountProgramEnd
  rw [hop]
  dsimp only
  rw [runTo_of_ahead s e hgt]

end
end

/-- The load goes on to the directory read, unless it has been abandoned (log entry 25). -/
theorem afterStartCount_eq {t : State} {x : Option LoadState} {g : Word} (hx : t.load = x)
    (hg : t.gt = g) : afterStartCount t = { t with
      load := if x = none then none else some { step := .directoryRead, stepEnd := g + 40 } } := by
  subst hg
  unfold afterStartCount
  rw [hx]
  cases x with
  | none => exact congrArg (fun y => { t with load := y }) hx
  | some x => rfl

theorem raiseReport_load (r : Report) (s : State) : (raiseReport r s).load = s.load := by
  rw [raiseReport_frame]

theorem raiseReport_gt (r : Report) (s : State) : (raiseReport r s).gt = s.gt := by
  rw [raiseReport_frame]

theorem nvmWord_programWord {m : List Host.Cell} (h : nvmWf m = true) (sec k : Nat) (v : Word) :
    nvmWord (programWord m sec k v) sec k = nvmWord m sec k &&& v :=
  (nvmWord_nvmSetWord h ..).trans (if_pos rfl)

/-- Settles O52: the count that the read gives, and either end of the program that counts the start. -/
theorem startCounted : Obligations.StartCounted := by
  unfold Obligations.StartCounted
  refine fun e s hgt hwf => ⟨fun hload => ⟨?read, fun hfull => ?full⟩, ?program⟩
  case read =>
    intro zeros k j hk _ hbit hwords hbits hzeros
    have hcount : startsCounted (readSector s.nvm 1) = zeros := by
      rw [hzeros, startsCounted_readSector]
      simp only [zeroBits_eq]
    have hexec := exec_startCounterReadEnd_counts hgt hload (startsCounted_lt hk hbit)
    rw [startWord_readSector hk hbit hwords, le32_readSector _ _ hk, hcount] at hexec
    exact ⟨_, hexec, fun i _ => clearLowest_getLsbD hbit hbits i⟩
  case full => exact exec_startCounterReadEnd_full hgt hload (startsCounted_full hfull)
  case program =>
    rintro k v count g next hop rfl
    refine ⟨⟨programWord s.nvm 1 k v, ?_, nvmWord_programWord hwf 1 k v,
        fun a ha => nvmGet_programWord_of_ne hwf 1 k v ha⟩,
      programWordPart s.nvm 1 k v (Config.freeMask s.freeIndex), _, rfl, ?_,
        programPart_programWordPart hwf 1 k v _⟩
    · rw [exec_startCountProgramEnd_success hgt hop, afterStartCount_eq rfl rfl]
    · rw [exec_startCountProgramEnd_failure hgt hop,
        afterStartCount_eq (raiseReport_load ..) (raiseReport_gt ..)]
      rfl

end Sys2Proof.Machine
end

section
namespace Sys2Proof.Machine

/-! ## What only a cold reset undoes -/

/-- From `s` to `t` a set lock with the STATION_BASE under it, FAULTED with TAMPER_FAULT, and ZEROIZED stay
(R141, R142, R155, R158). -/
structure Latched (s t : State) : Prop where
  lock : s.lock = true →
    t.lock = true ∧ t.stationBaseLo = s.stationBaseLo ∧ t.stationBaseHi = s.stationBaseHi
  fault : s.device = .faulted → s.tamperFault = true → t.device = .faulted ∧ t.tamperFault = true
  zeroized : s.device = .zeroized → t.device = .zeroized

/-- The device keeps its state, or leaves one that is neither FAULTED nor ZEROIZED for one that is not
LOADING. -/
def DeviceMoves (s t : State) : Prop :=
  t.device = s.device ∨ (s.device ≠ .faulted ∧ s.device ≠ .zeroized ∧ t.device ≠ .loading)

theorem DeviceMoves.loading {s t : State} (h : DeviceMoves s t) (ht : t.device = .loading) :
    s.device = .loading := by
  rcases h with h | ⟨_, _, h⟩
  · rw [← h, ht]
  · exact absurd ht h

theorem DeviceMoves.of_haltable {s t : State} (h : s.haltable = true) (ht : t.device ≠ .loading) :
    DeviceMoves s t := by
  refine .inr ⟨?_, ?_, ht⟩ <;> rintro hd <;> simp [State.haltable, hd] at h

/-- The fields behind the lock and TAMPER_FAULT. -/
def State.latches (s : State) : Bool × Word × Word × Bool :=
  (s.lock, s.stationBaseLo, s.stationBaseHi, s.tamperFault)

theorem Latched.of_moves {s t : State} (hl : t.latches = s.latches) (hd : DeviceMoves s t) :
    Latched s t := by
  simp only [State.latches, Prod.mk.injEq] at hl
  obtain ⟨h1, h2, h3, h4⟩ := hl
  refine ⟨fun h => ⟨h1 ▸ h, h2, h3⟩, fun hf ht => ?_, fun hz => ?_⟩
  · rcases hd with hd | ⟨hd, _⟩
    · exact ⟨hd.trans hf, h4.trans ht⟩
    · exact absurd hf hd
  · rcases hd with hd | ⟨_, hd, _⟩
    · exact hd.trans hz
    · exact absurd hz hd

theorem Latched.trans {s t u : State} (h : Latched s t) (g : Latched t u) : Latched s u where
  lock hs := by
    obtain ⟨ht, h1, h2⟩ := h.lock hs
    obtain ⟨hu, g1, g2⟩ := g.lock ht
    exact ⟨hu, g1.trans h1, g2.trans h2⟩
  fault hd hf := by
    obtain ⟨hd, hf⟩ := h.fault hd hf
    exact g.fault hd hf
  zeroized hz := g.zeroized (h.zeroized hz)

/-! ## The key store stands -/

/-- A slot keeps its state, fields and epoch, and gains no key value. -/
structure SlotStands (x y : Slot) : Prop where
  state : y.state = x.state
  info : y.info = x.info
  epoch : y.epoch = x.epoch
  key : x.key = none → y.key = none

theorem SlotStands.refl (x : Slot) : SlotStands x x := ⟨rfl, rfl, rfl, id⟩

theorem SlotStands.trans {x y z : Slot} (h : SlotStands x y) (g : SlotStands y z) : SlotStands x z :=
  ⟨g.state.trans h.state, g.info.trans h.info, g.epoch.trans h.epoch, g.key ∘ h.key⟩

theorem SlotStands.gen {x y : Slot} (h : SlotStands x y) : y.gen? = x.gen? := by
  simp only [Slot.gen?, h.state, h.info]

theorem SlotStands.live {x y : Slot} (h : SlotStands x y) : y.live = x.live := by
  simp only [Slot.live, h.state]

/-- The directory of `t` binds the codes that the directory of `s` binds (R71). -/
def SameCodes (s t : State) : Prop :=
  ∀ n, (t.binding n).map Binding.issuer = (s.binding n).map Binding.issuer

/-- Every slot reference that an engine holds in `t` is one that an engine holds in `s`. -/
def WorksWithin (s t : State) : Prop :=
  ∀ e w ref, t.engine e = some (.pass w) → w.ref = some ref →
    ∃ f v, s.engine f = some (.pass v) ∧ v.ref = some ref

theorem WorksWithin.of_eq {s t : State} (h : t.engines = s.engines) : WorksWithin s t :=
  fun e w _ he hr => ⟨e, w, by rw [← he, State.engine_congr h], hr⟩

/-- From `s` to `t` what only a cold reset undoes stays, and the key store with what refers to it stands:
the day, the bound codes and the slots; cache entries, requests and slot references at most go; and LOADING
is not entered. -/
structure StoreStands (s t : State) : Prop extends Latched s t where
  day : t.currentDay = s.currentDay
  codes : SameCodes s t
  slots : ∀ n k, SlotStands (s.slot n k) (t.slot n k)
  cache : t.cache.Subperm s.cache
  fifo : t.fifo.Sublist s.fifo
  works : WorksWithin s t
  loading : t.device = .loading → s.device = .loading

/-- The same, and the load and a program of START_COUNT at most end. -/
structure KeyStands (s t : State) : Prop extends StoreStands s t where
  load : ∀ x, t.load = some x → s.load = some x
  count : ∀ r k v c, t.nvmOp = some r → r.op = .startCount k v c → s.nvmOp = some r

theorem StoreStands.trans {s t u : State} (h : StoreStands s t) (g : StoreStands t u) :
    StoreStands s u where
  toLatched := h.toLatched.trans g.toLatched
  day := g.day.trans h.day
  codes n := (g.codes n).trans (h.codes n)
  slots n k := (h.slots n k).trans (g.slots n k)
  cache := g.cache.trans h.cache
  fifo := g.fifo.trans h.fifo
  works e w ref he hr := by
    obtain ⟨f, v, hf, hv⟩ := g.works e w ref he hr
    exact h.works f v ref hf hv
  loading := h.loading ∘ g.loading

theorem KeyStands.trans {s t u : State} (h : KeyStands s t) (g : KeyStands t u) : KeyStands s u where
  toStoreStands := h.toStoreStands.trans g.toStoreStands
  load x hx := h.load x (g.load x hx)
  count r k v c hr ho := h.count r k v c (g.count r k v c hr ho) ho

/-- `KeyStands.trans` with the later part first. -/
theorem KeyStands.after {s t u : State} (g : KeyStands t u) (h : KeyStands s t) : KeyStands s u :=
  h.trans g

/-- The key store's fields. -/
def State.store (s : State) : Half × Vector (Option Binding) 32 × Vector (Vector Slot 8) 32
    × List CacheEntry × Vector (Option EngineWork) 2 :=
  (s.currentDay, s.directory, s.slices, s.cache, s.engines)

/-- The key store's fields stand, and the device moves as it may. -/
theorem StoreStands.of_fields {s t : State} (hl : t.latches = s.latches) (hs : t.store = s.store)
    (hd : DeviceMoves s t) (hf : t.fifo.Sublist s.fifo) : StoreStands s t := by
  simp only [State.store, Prod.mk.injEq] at hs
  obtain ⟨h1, h2, h3, h4, h5⟩ := hs
  exact
    { toLatched := .of_moves hl hd
      day := h1
      codes := fun n => by rw [State.binding_congr h2]
      slots := fun n k => by rw [State.slot_congr h3]; exact .refl _
      cache := by rw [h4]
      fifo := hf
      works := .of_eq h5
      loading := hd.loading }

theorem KeyStands.of_moves {s t : State} (hl : t.latches = s.latches) (hs : t.store = s.store)
    (hn : (t.load, t.nvmOp) = (s.load, s.nvmOp)) (hd : DeviceMoves s t) (hf : t.fifo.Sublist s.fifo) :
    KeyStands s t := by
  simp only [Prod.mk.injEq] at hn
  exact ⟨.of_fields hl hs hd hf, fun x hx => hn.1 ▸ hx, fun r _ _ _ hr _ => hn.2 ▸ hr⟩

theorem KeyStands.of_fields {s t : State} (hl : t.latches = s.latches) (hs : t.store = s.store)
    (hn : (t.load, t.nvmOp) = (s.load, s.nvmOp)) (hd : t.device = s.device) (hf : t.fifo = s.fifo) :
    KeyStands s t := .of_moves hl hs hn (.inl hd) (hf ▸ .refl _)

theorem KeyStands.refl (s : State) : KeyStands s s := .of_fields rfl rfl rfl rfl rfl

/-! ### Single fields that give up -/

/-- Both engines freed. -/
theorem enginesFree_keyStands (s : State) : KeyStands s s.enginesFree :=
  { KeyStands.refl s with
    works := fun e w ref he => by simp [State.enginesFree, State.engine] at he }

/-- One engine freed. -/
theorem freeEngine_keyStands (e : EngineNo) (s : State) : KeyStands s (s.setEngine e none) :=
  { KeyStands.refl s with
    works := fun f w ref hf hr => by
      rw [State.engine_setEngine] at hf
      split_ifs at hf
      exact ⟨f, w, hf, hr⟩ }

/-- An engine's work rewritten with its slot reference kept. -/
theorem setWork_keyStands {e : EngineNo} {s : State} {v w : PassWork} (hv : s.engine e = some (.pass v))
    (hw : w.ref = v.ref) : KeyStands s (s.setEngine e (some (.pass w))) :=
  { KeyStands.refl s with
    works := fun f x ref hf hr => by
      rw [State.engine_setEngine] at hf
      split_ifs at hf
      · cases hf
        exact ⟨e, v, hv, hw ▸ hr⟩
      · exact ⟨f, x, hf, hr⟩ }

/-- The load ended. -/
theorem dropLoad_keyStands (s : State) : KeyStands s { s with load := none } :=
  { KeyStands.refl s with load := nofun }

/-- A device that moves as it may. -/
theorem moveDevice_keyStands {s : State} {d : DeviceState} (h : DeviceMoves s { s with device := d }) :
    KeyStands s { s with device := d } := .of_moves rfl rfl rfl h (.refl _)

/-- Another operation record, of no program of START_COUNT. -/
theorem setRecord_keyStands (s : State) {o : Option NvmRecord}
    (h : ∀ r k v c, o = some r → r.op ≠ .startCount k v c) : KeyStands s { s with nvmOp := o } :=
  { KeyStands.refl s with count := fun r k v c hr ho => absurd ho (h r k v c hr) }

/-- A directory entry rewritten with its code kept. -/
theorem setBinding_keyStands {s : State} {n : SliceNo} {b : Option Binding}
    (h : b.map Binding.issuer = (s.binding n).map Binding.issuer) : KeyStands s (s.setBinding n b) :=
  { KeyStands.refl s with
    codes := fun m => by
      rw [State.binding_setBinding]
      split_ifs with e
      · rw [h, e]
      · rfl }

/-- A slot rewritten in its key value only. -/
theorem setSlot_keyStands {s : State} {n : SliceNo} {k : SlotNo} {x : Slot}
    (h : SlotStands (s.slot n k) x) : KeyStands s (s.setSlot n k x) :=
  { KeyStands.refl s with
    slots := fun m j => by
      rw [State.slot_setSlot]
      split_ifs with e
      · rw [e.1, e.2]; exact h
      · exact .refl _ }

end Sys2Proof.Machine
end

section
namespace Sys2Proof.Machine

/-! ## The laws of the key store, each by what it reads -/

/-- A directory of the same codes keeps the directory law; ZEROIZED is not left. -/
theorem DirectoryLaw.of_codes {s t : State} (h : DirectoryLaw s) (hc : SameCodes s t)
    (hz : s.device = .zeroized → t.device = .zeroized) : DirectoryLaw t := by
  have hback : ∀ n b, t.binding n = some b → ∃ c, s.binding n = some c ∧ c.issuer = b.issuer := by
    intro n b hb
    have hn := hc n
    rw [hb] at hn
    exact Option.map_eq_some_iff.mp hn.symm
  refine ⟨fun m n b c hm hn hbc => ?_, fun hd => ?_⟩
  · obtain ⟨b', hb', eb⟩ := hback m b hm
    obtain ⟨c', hc', ec⟩ := hback n c hn
    exact h.codes_distinct m n b' c' hb' hc' (eb.trans (hbc.trans ec.symm))
  · obtain ⟨b, hb, hb0⟩ := h.station_bound fun hs => hd (hz hs)
    have hn := hc 0
    rw [hb] at hn
    obtain ⟨c, hc', ec⟩ := Option.map_eq_some_iff.mp hn
    exact ⟨c, hc', ec.trans hb0⟩

/-- Entries lost or reordered keep the cache law. -/
theorem CacheLaw.of_subperm {s t : State} (h : CacheLaw s) (hc : t.cache.Subperm s.cache) :
    CacheLaw t := by
  obtain ⟨l, hl, hs⟩ := hc
  exact ⟨hl.length_eq ▸ hs.length_le.trans h.size,
    (hl.map _).nodup_iff.mp ((hs.map _).nodup h.distinct)⟩

/-- What the slot law says of the load. -/
structure LoadLaw (s : State) : Prop where
  count_in_step : ∀ r x k v c, s.nvmOp = some r → r.op = .startCount k v c → s.load = some x →
    x.step = .counterProgram
  early_empty : ∀ x, s.load = some x →
    (x.step = .optionRead ∨ x.step = .counterRead ∨ x.step = .counterProgram ∨ x.step = .directoryRead) →
    ∀ n k, (s.slot n k).state = .empty
  read_bound : ∀ x n, s.load = some x → (x.step = .sliceRead n ∨ ∃ k, x.step = .kcvCheck n k) →
    s.binding n ≠ none

theorem LoadLaw.of_no_load {s : State} (h : s.load = none) : LoadLaw s := by
  refine ⟨fun r x k v c _ _ hx => ?_, fun x hx => ?_, fun x n hx => ?_⟩ <;> rw [h] at hx <;> cases hx

theorem SlotLaw.loadLaw {s : State} (h : SlotLaw s) : LoadLaw s :=
  ⟨h.count_in_step, h.early_empty, h.read_bound⟩

/-- What the slot law says of one slot. -/
structure SlotSettled (s : State) (n : SliceNo) (k : SlotNo) : Prop where
  empty_holds_nothing : (s.slot n k).state = .empty →
    (s.slot n k).info = none ∧ (s.slot n k).key = none
  free_empty : s.device ≠ .zeroized → s.binding n = none → (s.slot n k).state = .empty
  live_by_day : ∀ i, (s.slot n k).live = true → (s.slot n k).info = some i →
    (s.slot n k).state = dayState s.currentDay i

theorem SlotLaw.settled {s : State} (h : SlotLaw s) (n : SliceNo) (k : SlotNo) : SlotSettled s n k :=
  ⟨h.empty_holds_nothing n k, fun hz hb => h.free_empty hz n hb k, h.live_by_day n k⟩

theorem SlotLaw.of_settled {s : State} (hl : LoadLaw s)
    (hq : s.device = .loading → s.cache = [] ∧ s.fifo = []) (h : ∀ n k, SlotSettled s n k) : SlotLaw s :=
  ⟨hl.count_in_step, hl.early_empty, hl.read_bound, hq, fun n k => (h n k).empty_holds_nothing,
    fun hz n hb k => (h n k).free_empty hz hb, fun n k => (h n k).live_by_day⟩

theorem SameCodes.binding_eq_none {s t : State} (h : SameCodes s t) {n : SliceNo} :
    t.binding n = none ↔ s.binding n = none := by
  rw [← Option.map_eq_none_iff (f := Binding.issuer), h n, Option.map_eq_none_iff]

theorem SameCodes.binding_back {s t : State} (h : SameCodes s t) {n : SliceNo} {b : Binding}
    (hb : t.binding n = some b) : ∃ c, s.binding n = some c ∧ c.issuer = b.issuer := by
  have hn := h n
  rw [hb] at hn
  exact Option.map_eq_some_iff.mp hn.symm

/-- Serial distances from a bound of 127 are differences. -/
theorem serial_sub {o a g : Byte} (h : (a - o).toNat ≤ (g - o).toNat) :
    (g - a).toNat = (g - o).toNat - (a - o).toNat := by
  simp only [BitVec.toNat_sub] at h ⊢
  omega

/-- Of generations within a span of 127 from some generation, one has all within 127 from itself. -/
theorem exists_oldest {n : SliceNo} {t : State} {o : Byte}
    (h : ∀ i g, (t.slot n i).gen? = some g → (g - o).toNat ≤ 127) {k : SlotNo} {g : Byte}
    (hk : (t.slot n k).gen? = some g) :
    ∃ j o', (t.slot n j).gen? = some o' ∧ ∀ i g, (t.slot n i).gen? = some g → (g - o').toNat ≤ 127 := by
  obtain ⟨j, hj, hmin⟩ := Finset.exists_min_image
    (Finset.univ.filter fun i => ((t.slot n i).gen?).isSome)
    (fun i => ((((t.slot n i).gen?).getD 0) - o).toNat) ⟨k, by simp [hk]⟩
  obtain ⟨o', ho'⟩ := Option.isSome_iff_exists.mp (Finset.mem_filter.mp hj).2
  refine ⟨j, o', ho', fun i g hi => ?_⟩
  have hle := hmin i (by simp [hi])
  simp only [ho', hi, Option.getD_some] at hle
  have := h i g hi
  rw [serial_sub hle]
  omega

/-- The service requests behind the head wait, and so does every head but the one that has begun. -/
theorem head_of_sublist {l m : List ServiceRequest} {h : ServiceRequest} {rest : List ServiceRequest}
    (hs : l.Sublist m) (hl : l = h :: rest) (hp : h.phase ≠ .waiting)
    (hm : ∀ r ∈ m.tail, r.phase = .waiting) : ∃ rest', m = h :: rest' := by
  subst hl
  cases hs with
  | cons a hs => exact absurd (hm h (hs.subset List.mem_cons_self)) hp
  | cons_cons a hs => exact ⟨_, rfl⟩

/-- Generations that at most go, under the same codes and with requests that at most go, keep the
generation law. -/
theorem GenerationLaw.of_carried {s t : State} (h : GenerationLaw s) (hc : SameCodes s t)
    (hf : t.fifo.Sublist s.fifo)
    (hg : ∀ n k g, (t.slot n k).gen? = some g → (s.slot n k).gen? = some g) : GenerationLaw t where
  distinct n j k g hj hk := h.distinct n j k g (hg n j g hj) (hg n k g hk)
  span n k g hk := by
    obtain ⟨_, o, _, hall⟩ := h.span n k g (hg n k g hk)
    exact exists_oldest (fun i g hi => hall i g (hg n i g hi)) hk
  head_only r hr := h.head_only r (hf.tail.subset hr)
  admitted r rest n b k g hr hk hp hb hi hgen := by
    obtain ⟨rest', hs⟩ := head_of_sublist hf hr hp h.head_only
    obtain ⟨c, hc', ec⟩ := hc.binding_back hb
    exact h.admitted r rest' n c k g hs hk hp hc' (ec.trans hi) (hg n k g hgen)

/-- Slot `k` of slice `n` from `s` to `t`: the same epoch, and serving if it served; or the next epoch, with
no cache entry left for it (R83). -/
def EpochKept (s t : State) (n : SliceNo) (k : SlotNo) : Prop :=
  ((t.slot n k).epoch = (s.slot n k).epoch ∧ ((s.slot n k).serving = true → (t.slot n k).serving = true))
    ∨ ((t.slot n k).epoch = (s.slot n k).epoch + 1
      ∧ ∀ x ∈ t.cache, ¬ (x.ref.slice = n ∧ x.ref.slot = k))

/-- A slot reference captured now, from a slot that serves. -/
def Captured (t : State) (ref : SlotRef) : Prop :=
  ref.epoch = (t.slot ref.slice ref.slot).epoch ∧ (t.slot ref.slice ref.slot).serving = true

/-- With each epoch kept or raised once, no captured epoch about to wrap, and every other slot reference
captured now, the serving law is kept. -/
theorem ServingLaw.of_epochs {s t : State} (h : ServingLaw s) (hw : NoWrapAhead s)
    (hc : t.cache ⊆ s.cache) (he : ∀ n k, EpochKept s t n k)
    (hworks : ∀ e w ref, t.engine e = some (.pass w) → w.ref = some ref →
      (∃ f v, s.engine f = some (.pass v) ∧ v.ref = some ref) ∨ Captured t ref) : ServingLaw t where
  entries x hx := by
    obtain ⟨hserv, hep⟩ := h.entries x (hc hx)
    rcases he x.ref.slice x.ref.slot with ⟨e, g⟩ | ⟨_, g⟩
    · exact ⟨(serving_iff _).mp (g ((serving_iff _).mpr hserv)), e.trans hep⟩
    · exact absurd ⟨rfl, rfl⟩ (g x hx)
  works e w ref hew href := by
    rcases hworks e w ref hew href with ⟨f, v, hf, hv⟩ | ⟨hcap, hserv⟩
    · obtain ⟨hle, hact⟩ := h.works f v ref hf hv
      have hne := hw f v ref hf hv
      rcases he ref.slice ref.slot with ⟨e, g⟩ | ⟨e, _⟩
      · rw [e]
        exact ⟨hle, fun heq => (serving_iff _).mp (g ((serving_iff _).mpr (hact heq)))⟩
      · have hnext : (t.slot ref.slice ref.slot).epoch.toNat
            = (s.slot ref.slice ref.slot).epoch.toNat + 1 := by
          rw [e]; bv_omega
        refine ⟨by omega, fun heq => ?_⟩
        rw [heq] at hnext
        omega
    · exact ⟨hcap ▸ le_rfl, fun _ => (serving_iff _).mp hserv⟩

/-! ## What a command keeps -/

/-- From `s` to `t` the laws of the key store are kept. -/
structure KeepsKeyLaws (s t : State) : Prop where
  directory : DirectoryLaw s → DirectoryLaw t
  cache : CacheLaw s → CacheLaw t
  slots : SlotLaw s → SlotLaw t
  generations : SlotLaw s → DirectoryLaw s → GenerationLaw s → GenerationLaw t
  serving : SlotLaw s → DirectoryLaw s → NoWrapAhead s → ServingLaw s → ServingLaw t

/-- From `s` to `t` what only a cold reset undoes stays, the day is not taken back, and the laws of the key
store are kept. -/
structure KeyStep (s t : State) : Prop extends Latched s t, KeepsKeyLaws s t where
  day : s.currentDay.toNat ≤ t.currentDay.toNat

/-! ### The key store stands -/

theorem StoreStands.slotLaw {s t : State} (h : StoreStands s t) (hs : SlotLaw s) (hl : LoadLaw t) :
    SlotLaw t := by
  refine .of_settled hl (fun hd => ?_) fun n k => ?_
  · obtain ⟨hc, hf⟩ := hs.loading_quiet (h.loading hd)
    have h1 := h.cache
    have h2 := h.fifo
    rw [hc] at h1
    rw [hf] at h2
    exact ⟨List.subperm_nil.mp h1, List.sublist_nil.mp h2⟩
  · have hk := h.slots n k
    obtain ⟨hempty, hfree, hlive⟩ := hs.settled n k
    refine ⟨fun he => ?_, fun hz hb => ?_, fun i hlv hi => ?_⟩
    · obtain ⟨hi, hkey⟩ := hempty (hk.state ▸ he)
      exact ⟨hk.info.trans hi, hk.key hkey⟩
    · rw [hk.state]
      exact hfree (fun hs => hz (h.zeroized hs)) (h.codes.binding_eq_none.mp hb)
    · rw [hk.state, h.day]
      exact hlive i (hk.live ▸ hlv) (hk.info ▸ hi)

theorem StoreStands.noWrapAhead {s t : State} (h : StoreStands s t) (hw : NoWrapAhead s) :
    NoWrapAhead t := fun e w ref he hr => by
  obtain ⟨f, v, hf, hv⟩ := h.works e w ref he hr
  rw [(h.slots ref.slice ref.slot).epoch]
  exact hw f v ref hf hv

theorem StoreStands.generationLaw {s t : State} (h : StoreStands s t) (hg : GenerationLaw s) :
    GenerationLaw t :=
  hg.of_carried h.codes h.fifo fun n k _ hk => (h.slots n k).gen ▸ hk

/-- Unlike a step that raises epochs, one in which the key store stands may bring an epoch to its last
value. -/
theorem StoreStands.servingLaw {s t : State} (h : StoreStands s t) (hs : ServingLaw s) : ServingLaw t where
  entries x hx := by
    have hk := h.slots x.ref.slice x.ref.slot
    rw [hk.state, hk.epoch]
    exact hs.entries x (h.cache.subset hx)
  works e w ref he hr := by
    obtain ⟨f, v, hf, hv⟩ := h.works e w ref he hr
    have hk := h.slots ref.slice ref.slot
    rw [hk.state, hk.epoch]
    exact hs.works f v ref hf hv

/-- Where the key store stands and the load is lawful, the laws are kept. -/
theorem StoreStands.step {s t : State} (h : StoreStands s t) (hl : SlotLaw s → LoadLaw t) :
    KeyStep s t where
  toLatched := h.toLatched
  directory hd := hd.of_codes h.codes h.zeroized
  cache hc := hc.of_subperm h.cache
  slots hs := h.slotLaw hs (hl hs)
  generations _ _ := h.generationLaw
  serving _ _ _ := h.servingLaw
  day := by rw [h.day]

theorem KeyStands.loadLaw {s t : State} (h : KeyStands s t) (hs : LoadLaw s) : LoadLaw t where
  count_in_step r x k v c hr ho hx :=
    hs.count_in_step r x k v c (h.count r k v c hr ho) ho (h.load x hx)
  early_empty x hx hstep n k := by
    rw [(h.slots n k).state]
    exact hs.early_empty x (h.load x hx) hstep n k
  read_bound x n hx hstep hb :=
    hs.read_bound x n (h.load x hx) hstep (h.codes.binding_eq_none.mp hb)

theorem KeyStands.step {s t : State} (h : KeyStands s t) : KeyStep s t :=
  h.toStoreStands.step fun hs => h.loadLaw hs.loadLaw

/-- The laws kept, and then a step in which the key store stands and the load is lawful. -/
theorem KeepsKeyLaws.andLoad {s t u : State} (h : KeepsKeyLaws s t) (g : StoreStands t u)
    (hl : SlotLaw t → LoadLaw u) : KeepsKeyLaws s u where
  directory := (g.step hl).directory ∘ h.directory
  cache := (g.step hl).cache ∘ h.cache
  slots := (g.step hl).slots ∘ h.slots
  generations hs hd hg := g.generationLaw (h.generations hs hd hg)
  serving hs hd hw hv := g.servingLaw (h.serving hs hd hw hv)

/-- A step, and then one in which the key store stands and the load is lawful. -/
theorem KeyStep.andLoad {s t u : State} (h : KeyStep s t) (g : StoreStands t u)
    (hl : SlotLaw t → LoadLaw u) : KeyStep s u where
  toLatched := h.toLatched.trans g.toLatched
  toKeepsKeyLaws := h.toKeepsKeyLaws.andLoad g hl
  day := by rw [g.day]; exact h.day

/-- A step, and then one in which the key store stands. -/
theorem KeyStep.andThen {s t u : State} (h : KeyStep s t) (g : KeyStands t u) : KeyStep s u :=
  h.andLoad g.toStoreStands fun hs => g.loadLaw hs.loadLaw

theorem KeyStands.thenLaws {s t u : State} (h : KeyStands s t) (g : KeepsKeyLaws t u) :
    KeepsKeyLaws s u where
  directory := g.directory ∘ h.step.directory
  cache := g.cache ∘ h.step.cache
  slots := g.slots ∘ h.step.slots
  generations hs hd hg := g.generations (h.step.slots hs) (h.step.directory hd) (h.generationLaw hg)
  serving hs hd hw hv :=
    g.serving (h.step.slots hs) (h.step.directory hd) (h.noWrapAhead hw) (h.servingLaw hv)

/-- A step after one in which the key store stands. -/
theorem KeyStands.thenStep {s t u : State} (h : KeyStands s t) (g : KeyStep t u) : KeyStep s u where
  toLatched := h.toLatched.trans g.toLatched
  toKeepsKeyLaws := h.thenLaws g.toKeepsKeyLaws
  day := by rw [← h.day]; exact g.day

end Sys2Proof.Machine
end

section
namespace Sys2Proof.Machine

/-! ## Shared operations under which the key store stands -/

theorem runTo_keyStands (s : State) (t : Word) : KeyStands s (s.runTo t) := .of_fields rfl rfl rfl rfl rfl

theorem settle_keyStands (l : LaneNo) (s : State) : KeyStands s (settle l s) := by
  have hd : DeviceMoves s (settle l s) := by
    rcases settle_device l s with h | ⟨hs, ht⟩
    · exact .inl h
    · exact .inr ⟨by rw [hs]; decide, by rw [hs]; decide, by rw [ht]; decide⟩
  rw [settle_frame] at hd ⊢
  exact .of_moves rfl rfl rfl hd (.refl _)

theorem setLane_keyStands (l : LaneNo) (x : Lane) (s : State) : KeyStands s (s.setLane l x) :=
  .of_fields rfl rfl rfl rfl rfl

theorem releaseCells_keyStands (l : LaneNo) (n : Nat) (s : State) : KeyStands s (releaseCells l n s) :=
  (setLane_keyStands l _ s).trans (settle_keyStands l _)

theorem makeEntry_keyStands (e : ReturnEntry) (s : State) : KeyStands s (makeEntry e s) := by
  rcases makeEntry_cases e s with ⟨_, h⟩ | ⟨_, h⟩ <;> rw [h]
  · exact .of_fields rfl rfl rfl rfl rfl
  · exact releaseCells_keyStands _ _ s

/-- The traffic freezes in a device state that is entered from neither FAULTED nor ZEROIZED. -/
theorem freeze_keyStands {s : State} {d : DeviceState} (hd : DeviceMoves s { s with device := d }) :
    KeyStands s { freezeTraffic s with device := d } := by
  refine (enginesFree_keyStands s).trans (.of_moves rfl rfl rfl ?_ (.refl _))
  exact hd

theorem enterFaulted_keyStands {s : State} (h : s.haltable = true) : KeyStands s (enterFaulted s) :=
  freeze_keyStands (.of_haltable h nofun)

theorem raiseReports_keyStands (rs : List Report) (s : State) : KeyStands s (raiseReports rs s) :=
  raiseReports_induction (p := KeyStands s)
    (fun _ _ h => h.trans (.of_fields rfl rfl rfl rfl rfl))
    (fun _ _ h => h.trans (.of_fields rfl rfl rfl rfl rfl))
    (fun _ hh h => h.trans (enterFaulted_keyStands hh)) rs s (.refl s)

theorem raiseReport_keyStands (r : Report) (s : State) : KeyStands s (raiseReport r s) :=
  raiseReports_keyStands [r] s

theorem haltLane_keyStands (l : LaneNo) (s : State) : KeyStands s (haltLane l s) := by
  refine .after (settle_keyStands l _) ?_
  exact .of_moves rfl rfl rfl (.inl rfl) List.filter_sublist

theorem haltIfLive_keyStands (l : LaneNo) (s : State) : KeyStands s (haltIfLive l s) := by
  rcases haltIfLive_cases l s with h | ⟨_, h⟩ <;> rw [h]
  · exact .refl s
  · exact haltLane_keyStands l s

theorem drainLane_keyStands (l : LaneNo) (s : State) : KeyStands s (drainLane l s) :=
  .of_moves rfl rfl rfl (.inl rfl) List.filter_sublist

theorem drainLanes_keyStands (ls : List LaneNo) (s : State) : KeyStands s (drainLanes ls s) := by
  induction ls generalizing s with
  | nil => exact .refl s
  | cons l ls ih =>
    rw [drainLanes]
    split_ifs
    · exact (drainLane_keyStands l s).trans (ih _)
    · exact ih s

theorem popHead_keyStands (s : State) : KeyStands s (popHead s) :=
  .of_moves rfl rfl rfl (.inl rfl) (List.tail_sublist _)

theorem finish_keyStands (h : ServiceRequest) (st : Status) (fields : List ResultField) (s : State) :
    KeyStands s (finish h st fields s) := (popHead_keyStands s).trans (makeEntry_keyStands _ _)

/-! ## Commands under which the key store stands -/

/-! ### Register writes (R157 to R167) -/

theorem softResetState_keyStands {s : State} (h : s.softResettable = true) :
    KeyStands s (softResetState s) := by
  have hd : s.device ≠ .zeroized ∧ (s.device = .faulted → s.tamperFault = false) := by
    cases hdev : s.device <;> simp_all [State.softResettable]
  have hrec : ∀ r k v c, dropCellRef s.nvmOp = some r → r.op = .startCount k v c → s.nvmOp = some r := by
    intro r k v c hr ho
    unfold dropCellRef at hr
    split at hr
    · cases hr
    · split at hr
      · cases hr; cases ho
      all_goals rw [← hr]; assumption
  exact
    { lock := fun hl => ⟨hl, rfl, rfl⟩
      fault := fun hf ht => by rw [hd.2 hf] at ht; cases ht
      zeroized := fun hz => absurd hz hd.1
      day := rfl
      codes := fun _ => rfl
      slots := fun _ _ => .refl _
      cache := List.nil_subperm
      fifo := List.nil_sublist _
      works := fun e w ref he => by simp [softResetState, State.engine] at he
      loading := nofun
      load := fun x hx => hx
      count := hrec }

theorem softResetRequest_keyStands (s : State) : KeyStands s (softResetRequest s) := by
  unfold softResetRequest
  split_ifs with h
  · exact softResetState_keyStands h
  · exact .refl s

theorem startRequest_keyStands (s : State) : KeyStands s (startRequest s) := by
  unfold startRequest
  split
  · split_ifs
    · exact .refl s
    all_goals exact .of_fields rfl rfl rfl rfl rfl
  all_goals exact .of_fields rfl rfl rfl rfl rfl

theorem endStopping_keyStands (s : State) : KeyStands s (endStopping s) := by
  unfold endStopping
  split_ifs with h
  · refine .of_moves rfl rfl rfl (.inr ⟨?_, ?_, nofun⟩) (.refl _) <;> rw [h.1] <;> decide
  · exact .refl s

theorem stopRequest_keyStands (s : State) : KeyStands s (stopRequest s) := by
  unfold stopRequest
  split_ifs with h
  · have hdrain := drainLanes_keyStands allLanes s
    have hd : (drainLanes allLanes s).device = .running := by rw [drainLanes_frame]; exact h
    generalize drainLanes allLanes s = u at hdrain hd ⊢
    refine hdrain.trans (.after (endStopping_keyStands _) (moveDevice_keyStands (.inr ⟨?_, ?_, ?_⟩)))
    · rw [hd]; decide
    · rw [hd]; decide
    · nofun
  · exact .refl s

/-- A set lock stands; setting it moves neither STATION_BASE nor the device. -/
theorem setLock_keyStands (s : State) : KeyStands s { s with lock := true } :=
  { KeyStands.refl s with lock := fun _ => ⟨rfl, rfl, rfl⟩ }

theorem controlWrite_keyStands (w : Word) (s : State) : KeyStands s (controlWrite w s) := by
  have hlock : KeyStands s (if w.getLsbD 3 then { s with lock := true } else s) := by
    split_ifs
    · exact setLock_keyStands s
    · exact .refl s
  unfold controlWrite
  split
  · exact softResetRequest_keyStands s
  · dsimp only
    split
    · exact hlock.trans (startRequest_keyStands _)
    · split
      · exact hlock.trans (stopRequest_keyStands _)
      · exact hlock

/-- STATION_BASE is stored only while the lock is clear (R158). -/
theorem stationBaseWrite_keyStands (half : StationHalf) (v : Word) (s : State) :
    KeyStands s (stationBaseWrite half v s) := by
  unfold stationBaseWrite
  split_ifs with h
  · exact .refl s
  · cases half <;> exact { KeyStands.refl s with lock := fun hl => absurd hl h }

theorem postWrite_keyStands (v : Word) (s : State) : KeyStands s (postWrite v s) := by
  unfold postWrite
  split_ifs
  · exact setLane_keyStands _ _ s
  · exact .refl s
  · exact .refl s

theorem registerWrite_keyStands (offset width : Nat) (v : Word) (s : State) :
    KeyStands s (registerWrite offset width v s) := by
  unfold registerWrite
  split_ifs
  · split
    · exact controlWrite_keyStands v s
    · exact stationBaseWrite_keyStands .lo v s
    · exact stationBaseWrite_keyStands .hi v s
    · exact postWrite_keyStands v s
    · exact .of_fields rfl rfl rfl rfl rfl
    · exact .of_fields rfl rfl rfl rfl rfl
    · exact .refl s
  · exact .refl s

/-! ### Bus reads and takes -/

theorem execStationRecordReadIssue_keyStands (s : State) :
    Answers (KeyStands s) (execStationRecordReadIssue s) := by
  unfold execStationRecordReadIssue
  split
  · split_ifs
    · exact .next (.refl s)
    · exact .next (.of_fields rfl rfl rfl rfl rfl)
  · exact .next (.refl s)

theorem endDiscarded_keyStands (r : ReadEnd) (l : Option LaneNo) (s : State) :
    KeyStands s (endDiscarded r l s) := by
  unfold endDiscarded
  split
  · exact raiseReport_keyStands _ s
  · exact .refl s

/-- A live station record read ends in STOPPED, whatever its record. -/
theorem endStart_keyStands (r : ReadEnd) {s : State} (hd : s.device = .stopped) :
    KeyStands s (endStart r s) := by
  unfold endStart
  split
  · exact .after (raiseReport_keyStands _ _) (.of_fields rfl rfl rfl rfl rfl)
  · split_ifs
    · refine .of_moves rfl rfl rfl (.inr ⟨?_, ?_, nofun⟩) (.refl _) <;> rw [hd] <;> decide
    · exact .of_fields rfl rfl rfl rfl rfl

theorem execStationRecordReadEnd_keyStands (r : ReadEnd) {s : State} (hc : ControlLaw s) :
    Answers (KeyStands s) (execStationRecordReadEnd r s) := by
  have hfree : KeyStands s { s with readChannel := .free } := .of_fields rfl rfl rfl rfl rfl
  unfold execStationRecordReadEnd
  split
  · next a ha =>
    refine .next (hfree.trans ?_)
    cases a with
    | true => exact endDiscarded_keyStands r none _
    | false => exact endStart_keyStands r (hc.start_in_stopped (hc.live_read_has_start ha))
  · exact .next (.refl s)
  · exact .next (.refl s)

theorem execCellReadIssue_keyStands (s : State) : Answers (KeyStands s) (execCellReadIssue s) := by
  unfold execCellReadIssue
  split
  · exact .next (.of_fields rfl rfl rfl rfl rfl)
  · exact .next (.refl s)

theorem takeBasics_keyStands (l : LaneNo) (s : State) : KeyStands s (takeBasics l s) :=
  .of_fields rfl rfl rfl rfl rfl

theorem takeToQueue_keyStands (l : LaneNo) (e : ReturnEntry) (s : State) :
    KeyStands s (takeToQueue l e s) := (setLane_keyStands l _ s).trans (makeEntry_keyStands e _)

theorem takeExt_keyStands (l : LaneNo) (c : TakenCell) (s : State) : KeyStands s (takeExt l c s) := by
  unfold takeExt
  split_ifs
  · exact setLane_keyStands l _ s
  · exact takeToQueue_keyStands l _ s

theorem queueRequest_keyStands (r : PassRequest) (s : State) : KeyStands s (queueRequest r s) := by
  unfold queueRequest
  split_ifs
  · exact makeEntry_keyStands _ s
  · exact setLane_keyStands _ _ s

theorem takePass_keyStands (l : LaneNo) (c : TakenCell) (take : Word) (s : State) :
    KeyStands s (takePass l c take s) := by
  unfold takePass
  dsimp only
  split_ifs
  · exact takeToQueue_keyStands l _ s
  · exact (setLane_keyStands l _ s).trans (queueRequest_keyStands _ _)

/-- From `s` to `t` the key store stands but for a service request, of a lane that is RUNNING in `s`, that
joins the FIFO to wait. -/
def Enqueues (s t : State) : Prop :=
  ∃ q u, (s.lane q.lane).state = .running ∧ q.phase = .waiting ∧ KeyStands s u ∧ u.device = s.device
    ∧ t = { u with fifo := u.fifo ++ [q] }

theorem takeService_cases (l : LaneNo) (c : TakenCell) (kind : ServiceKind) (take : Word) {s : State}
    (h : (s.lane l).state = .running) :
    KeyStands s (takeService l c kind take s) ∨ Enqueues s (takeService l c kind take s) := by
  unfold takeService
  split_ifs
  · exact .inl (takeToQueue_keyStands l _ s)
  · exact .inr ⟨_, s, h, rfl, .refl s, rfl, rfl⟩
  · exact .inl (takeToQueue_keyStands l _ s)

/-- A cell read ends with the key store standing, or with a service request of a RUNNING lane taken. -/
theorem endCellRead_cases (x : CellRead) (r : ReadEnd) (s : State) :
    KeyStands s (endCellRead x r s) ∨ Enqueues s (endCellRead x r s) := by
  unfold endCellRead
  split_ifs with h1 h2 h3
  · exact .inl (endDiscarded_keyStands _ _ s)
  · split
    · exact .inl (.refl s)
    · exact .inl ((haltLane_keyStands _ s).trans (raiseReport_keyStands _ _))
  · split
    · exact .inl (.refl s)
    · exact .inl (raiseReport_keyStands _ s)
  · have hrun : (s.lane x.lane).state = .running := by
      simp only [Bool.or_eq_true, bne_iff_ne, not_or, not_not] at h2
      exact h2.2
    have hb := takeBasics_keyStands x.lane s
    have hbrun : ((takeBasics x.lane s).lane x.lane).state = .running := by
      rw [takeBasics_lane]; exact hrun
    split
    · unfold scanCell takeCell
      split_ifs
      · exact .inl (hb.trans (takePass_keyStands _ _ _ _))
      · exact .inl (hb.trans (takeExt_keyStands _ _ _))
      · split
        · next kind _ =>
          rcases takeService_cases x.lane _ kind s.takeCounter hbrun with h | ⟨q, u, hq, hp, hu, hd, e⟩
          · exact .inl (hb.trans h)
          · refine .inr ⟨q, u, ?_, hp, hb.trans hu, hd, e⟩
            have hst : ∀ m, ((takeBasics x.lane s).lane m).state = (s.lane m).state := fun m => by
              rw [State.lane_of_set (s := s) (t := takeBasics x.lane s) rfl]
              split_ifs with e
              · rw [e]
              · rfl
            rw [← hst]; exact hq
        · exact .inl (hb.trans (takeToQueue_keyStands _ _ _))
      · exact .inl (setLane_keyStands _ _ s)
    · exact .inl ((haltLane_keyStands _ s).trans (raiseReport_keyStands _ _))

theorem execCellReadEnd_cases (r : ReadEnd) (s : State) :
    Answers (fun t => KeyStands s t ∨ Enqueues s t) (execCellReadEnd r s) := by
  have hfree : KeyStands s { s with readChannel := .free } := .of_fields rfl rfl rfl rfl rfl
  unfold execCellReadEnd
  split
  · next x _ =>
    refine .next ?_
    rcases endCellRead_cases x (readOutcome x.refused r) { s with readChannel := .free } with
      h | ⟨q, u, hq, hp, hu, hd, e⟩
    · exact .inl (hfree.trans h)
    · exact .inr ⟨q, u, hq, hp, hfree.trans hu, hd, e⟩
  · exact .next (.inl (.refl s))
  · exact .next (.inl (.refl s))

theorem execDeadlineExpiry_keyStands (l : LaneNo) (take : Word) (s : State) :
    Answers (KeyStands s) (execDeadlineExpiry l take s) := by
  unfold execDeadlineExpiry
  split_ifs
  · exact .next (.refl s)
  · split
    · exact .next (.refl s)
    · exact .next ((runTo_keyStands s _).trans ((setLane_keyStands l _ _).trans (makeEntry_keyStands _ _)))

/-! ### Stages of pass requests -/

/-- Work found at a stage is what its engine holds. -/
theorem engine_eq_of_workAt {s : State} {e : EngineNo} {st : Stage} {w : PassWork}
    (h : s.workAt e st = some w) : s.engine e = some (.pass w) := by
  unfold State.workAt at h
  split at h
  · next he =>
    split_ifs at h
    cases h
    exact he
  · cases h
  · cases h

/-- A stage that ends leaves the engine with the same slot reference, or free. -/
theorem nextStage_keyStands {e : EngineNo} {s : State} {v w : PassWork} (hv : s.engine e = some (.pass v))
    (hw : w.ref = v.ref) : KeyStands s (nextStage e w s) := by
  unfold nextStage
  split
  · exact (freeEngine_keyStands e s).trans (makeEntry_keyStands _ _)
  · exact setWork_keyStands hv hw

theorem execVerifyComplete_keyStands (e : EngineNo) (s : State) :
    Answers (KeyStands s) (execVerifyComplete e s) := by
  unfold execVerifyComplete
  split
  · exact .next (.refl s)
  · next hw => exact .next ((runTo_keyStands s _).trans (nextStage_keyStands (engine_eq_of_workAt hw) rfl))

theorem execWriteComplete_keyStands (e : EngineNo) (s : State) :
    Answers (KeyStands s) (execWriteComplete e s) := by
  unfold execWriteComplete
  split
  · exact .next (.refl s)
  · next hw => exact .next ((runTo_keyStands s _).trans (nextStage_keyStands (engine_eq_of_workAt hw) rfl))

theorem execEvidenceComplete_keyStands (e : EngineNo) (s : State) :
    Answers (KeyStands s) (execEvidenceComplete e s) := by
  unfold execEvidenceComplete
  split
  · exact .next (.refl s)
  · next hw => exact .next ((runTo_keyStands s _).trans (nextStage_keyStands (engine_eq_of_workAt hw) rfl))

/-! ### The write channel -/

theorem execWriteChannelIssue_keyStands (s : State) : Answers (KeyStands s) (execWriteChannelIssue s) := by
  have hissue : ∀ kind lane addr data attached (u : State),
      KeyStands u (issueWrite kind lane addr data attached u) :=
    fun _ _ _ _ _ _ => .of_fields rfl rfl rfl rfl rfl
  unfold execWriteChannelIssue
  split
  · exact .next (.refl s)
  · split
    · next n rest _ =>
      refine .next (KeyStands.trans (t := { s with noticeList := rest }) (.of_fields rfl rfl rfl rfl rfl) ?_)
      cases n <;> exact hissue ..
    · split
      · split
        · split
          · unfold issueCellWrite
            split_ifs <;> exact .next (hissue ..)
          · exact .next (.refl s)
        · exact .next (.refl s)
      · exact .next (.refl s)

theorem landWrite_keyStands (w : BusWrite) (s : State) : KeyStands s (landWrite w s) :=
  .of_fields rfl rfl rfl rfl rfl

theorem failReturnWrite_keyStands (w : BusWrite) (s : State) :
    KeyStands s (failReturnWrite w { s with writeChannel := none }) := by
  refine KeyStands.trans (t := { s with writeChannel := none }) (.of_fields rfl rfl rfl rfl rfl) ?_
  unfold failReturnWrite
  refine .after (raiseReport_keyStands _ _) ?_
  split
  · split_ifs
    · exact haltIfLive_keyStands _ _
    · exact .refl _
  · exact .refl _

theorem execReturnFirstWriteEnd_keyStands (r : BusEnd) (s : State) :
    Answers (KeyStands s) (execReturnFirstWriteEnd r s) := by
  unfold execReturnFirstWriteEnd
  split
  · split
    · split
      · refine .next ?_
        split
        · exact .of_fields rfl rfl rfl rfl rfl
        · exact landWrite_keyStands _ s
      · exact .next (failReturnWrite_keyStands _ s)
    · exact .next (.refl s)
  · exact .next (.refl s)

theorem raiseLaneNotice_keyStands (l : LaneNo) (s : State) : KeyStands s (raiseLaneNotice l s) := by
  rw [raiseLaneNotice_frame]
  exact .of_fields rfl rfl rfl rfl rfl

theorem returnCell_keyStands (s : State) : KeyStands s (returnCell s) := by
  unfold returnCell
  split
  · exact .refl s
  · split
    · exact .refl s
    · refine .after (releaseCells_keyStands _ _ _) (.after (raiseLaneNotice_keyStands _ _) ?_)
      exact .of_fields rfl rfl rfl rfl rfl
    · exact .after (releaseCells_keyStands _ _ _) (.of_fields rfl rfl rfl rfl rfl)

theorem execReturnOwnWriteEnd_keyStands (r : BusEnd) (s : State) :
    Answers (KeyStands s) (execReturnOwnWriteEnd r s) := by
  unfold execReturnOwnWriteEnd
  split
  · split
    · split
      · refine .next ?_
        split
        · exact (landWrite_keyStands _ s).trans (returnCell_keyStands _)
        · exact landWrite_keyStands _ s
      · exact .next (failReturnWrite_keyStands _ s)
    · exact .next (.refl s)
  · exact .next (.refl s)

theorem endNoticeWrite_keyStands (w : BusWrite) (r : BusEnd) (s : State) :
    KeyStands s (endNoticeWrite w r s) := by
  unfold endNoticeWrite
  split
  · exact landWrite_keyStands w s
  · exact .after (raiseReport_keyStands _ _) (.of_fields rfl rfl rfl rfl rfl)

theorem execNoticeWriteEnd_keyStands (r : BusEnd) (s : State) :
    Answers (KeyStands s) (execNoticeWriteEnd r s) := by
  unfold execNoticeWriteEnd
  split
  · split_ifs
    · exact .next (endNoticeWrite_keyStands _ r s)
    · exact .next (.refl s)
  · exact .next (.refl s)

theorem execErrorNoticeWriteEnd_keyStands (r : BusEnd) (s : State) :
    Answers (KeyStands s) (execErrorNoticeWriteEnd r s) := by
  unfold execErrorNoticeWriteEnd
  split
  · split_ifs
    · exact .next (endNoticeWrite_keyStands _ r s)
    · exact .next (.refl s)
  · exact .next (.refl s)

/-! ### A COMMIT in flight -/

/-- The record of a COMMIT moves on. -/
theorem commitStep_keyStands (r : NvmRecord) (c : CommitOp) (step : CommitStep) (t : Nat) (s : State) :
    KeyStands s (commitStep r c step t s) :=
  setRecord_keyStands s fun _ _ _ _ hr ho => by cases hr; cases ho

theorem discardRecord_keyStands (s : State) : KeyStands s (discardRecord s) :=
  setRecord_keyStands s nofun

theorem commitEntry_keyStands (c : CommitOp) (st : Status) (fields : List ResultField) (s : State) :
    KeyStands s (commitEntry c st fields s) := by
  unfold commitEntry
  split
  · exact .refl s
  · exact makeEntry_keyStands _ s

theorem map_issuer_of_mark {o : Option Binding} {f : Binding → Binding} (hf : ∀ b, (f b).issuer = b.issuer) :
    (o.map f).map Binding.issuer = o.map Binding.issuer := by
  cases o with
  | none => rfl
  | some b => exact congrArg some (hf b)

theorem clearMark_keyStands (c : CommitOp) (s : State) : KeyStands s (clearMark c s) := by
  unfold clearMark
  split_ifs
  · exact .refl s
  · split
    · exact .of_fields rfl rfl rfl rfl rfl
    · exact setBinding_keyStands (map_issuer_of_mark fun _ => rfl)

theorem execCommitEraseEnd_keyStands (x : NvmEnd) (s : State) :
    Answers (KeyStands s) (execCommitEraseEnd x s) := by
  unfold execCommitEraseEnd
  split
  · split_ifs
    · cases x
      all_goals exact .next (.after (commitStep_keyStands _ _ _ _ _) (.of_fields rfl rfl rfl rfl rfl))
    · exact .next (.refl s)
  · exact .next (.refl s)

theorem programSucceeds_keyStands (r : NvmRecord) (c : CommitOp) (k : Nat) (s : State) :
    KeyStands s (programSucceeds r c k s) := by
  unfold programSucceeds commitSucceeds
  dsimp only
  split_ifs
  · refine .after (discardRecord_keyStands _) (.after (commitEntry_keyStands _ _ _ _)
      (.after (clearMark_keyStands c _) ?_))
    exact .of_fields rfl rfl rfl rfl rfl
  · exact .after (commitStep_keyStands _ _ _ _ _) (.of_fields rfl rfl rfl rfl rfl)

theorem execCommitWordProgramEnd_keyStands (x : NvmEnd) (s : State) :
    Answers (KeyStands s) (execCommitWordProgramEnd x s) := by
  unfold execCommitWordProgramEnd
  split
  · split
    · cases x with
      | success => exact .next ((runTo_keyStands s _).trans (programSucceeds_keyStands _ _ _ _))
      | failure => exact .next (.after (commitStep_keyStands _ _ _ _ _) (.of_fields rfl rfl rfl rfl rfl))
    · exact .next (.refl s)
    · exact .next (.refl s)
  · exact .next (.refl s)

theorem spoilEnds_keyStands (r : NvmRecord) (c : CommitOp) (f : Option Nat) (s : State) :
    KeyStands s (spoilEnds r c f s) :=
  (raiseReport_keyStands _ s).trans ((commitEntry_keyStands _ _ _ _).trans (discardRecord_keyStands _))

theorem execSpoilProgramEnd_keyStands (x : NvmEnd) (s : State) :
    Answers (KeyStands s) (execSpoilProgramEnd x s) := by
  unfold execSpoilProgramEnd
  split
  · split
    · refine .next (.after (spoilEnds_keyStands _ _ _ _) ?_)
      cases x <;> exact .of_fields rfl rfl rfl rfl rfl
    · exact .next (.refl s)
    · exact .next (.refl s)
  · exact .next (.refl s)

/-! ### Lane-control requests and LOG_READ -/

theorem runLogRead_keyStands (h : ServiceRequest) (s : State) : KeyStands s (runLogRead h s) := by
  unfold runLogRead
  exact finish_keyStands ..

theorem runLaneStop_keyStands (h : ServiceRequest) (s : State) : KeyStands s (runLaneStop h s) := by
  unfold runLaneStop
  split_ifs
  · dsimp only
    split_ifs
    · exact (popHead_keyStands s).trans ((drainLane_keyStands _ _).trans (makeEntry_keyStands _ _))
    · exact finish_keyStands ..
  · exact finish_keyStands ..

theorem runLaneResume_keyStands (h : ServiceRequest) (s : State) : KeyStands s (runLaneResume h s) := by
  unfold runLaneResume
  dsimp only
  split_ifs
  · exact finish_keyStands ..
  · exact finish_keyStands ..
  · exact finish_keyStands ..
  · exact (setLane_keyStands _ _ s).trans (finish_keyStands ..)
  · exact finish_keyStands ..

end Sys2Proof.Machine
end

section
namespace Sys2Proof.Machine

/-! ## Steps of the key store in RUNNING and STOPPING -/

/-- From `s` to `t` slots change under the same codes, outside a load: every slot is settled, each epoch is
kept or raised once with its entries purged, and every new slot reference has just been captured. -/
structure SlotsStep (s t : State) : Prop extends Latched s t where
  day : s.currentDay.toNat ≤ t.currentDay.toNat
  codes : SameCodes s t
  cache : t.cache.Subperm s.cache
  fifo : t.fifo.Sublist s.fifo
  no_load : t.load = none
  not_loading : t.device ≠ .loading
  settled : SlotLaw s → ∀ n k, SlotSettled t n k
  epochs : SlotLaw s → ∀ n k, EpochKept s t n k
  works : SlotLaw s → DirectoryLaw s → ∀ e w ref, t.engine e = some (.pass w) → w.ref = some ref →
    (∃ f v, s.engine f = some (.pass v) ∧ v.ref = some ref) ∨ Captured t ref

/-- A step of slots keeps the laws, if the generation law is seen to. -/
theorem SlotsStep.step {s t : State} (h : SlotsStep s t)
    (hg : SlotLaw s → DirectoryLaw s → GenerationLaw s → GenerationLaw t) : KeyStep s t where
  toLatched := h.toLatched
  directory hd := hd.of_codes h.codes h.zeroized
  cache hc := hc.of_subperm h.cache
  slots hs := .of_settled (.of_no_load h.no_load) (fun hd => absurd hd h.not_loading) (h.settled hs)
  generations := hg
  serving hs hd hw hv := hv.of_epochs hw h.cache.subset (h.epochs hs) (h.works hs hd)
  day := h.day

/-- The same with generations that at most go. -/
theorem SlotsStep.step_of_carried {s t : State} (h : SlotsStep s t)
    (hg : SlotLaw s → ∀ n k g, (t.slot n k).gen? = some g → (s.slot n k).gen? = some g) : KeyStep s t :=
  h.step fun hs _ hgen => hgen.of_carried h.codes h.fifo (hg hs)

/-- No load runs, and the device is neither LOADING nor ZEROIZED. -/
structure StoreOpen (s : State) : Prop where
  no_load : s.load = none
  not_loading : s.device ≠ .loading
  not_zeroized : s.device ≠ .zeroized

theorem StoreOpen.of_device {s : State} (hc : ControlLaw s) (hl : s.device ≠ .loading)
    (hz : s.device ≠ .zeroized) : StoreOpen s :=
  ⟨Option.not_isSome_iff_eq_none.mp fun h => hl (hc.load_in_loading h), hl, hz⟩

theorem StoreOpen.of_active {s : State} (ha : s.active = true) (hc : ControlLaw s) : StoreOpen s := by
  refine .of_device hc ?_ ?_ <;> intro hd <;> simp [State.active, hd] at ha

/-- An engine works neither in LOADING nor in ZEROIZED (R39). -/
theorem StoreOpen.of_engine {s : State} {e : EngineNo} {w : EngineWork} (he : s.engine e = some w)
    (hc : ControlLaw s) : StoreOpen s := by
  refine .of_device hc ?_ ?_ <;> intro hd
  · rw [hc.engines_free (.inl hd) e] at he
    cases he
  · rw [hc.engines_free (.inr (by simp [State.frozen, hd])) e] at he
    cases he

/-- A slot that is not EMPTY is of a bound slice. -/
theorem SlotLaw.bound {s : State} (h : SlotLaw s) (hz : s.device ≠ .zeroized) {n : SliceNo} {k : SlotNo}
    (hk : (s.slot n k).state ≠ .empty) : s.binding n ≠ none :=
  fun hb => hk (h.free_empty hz n hb k)

/-! ### One slot replaced -/

/-- The purge of a slot leaves no entry of it. -/
theorem not_mem_purgeCache {n : SliceNo} {k : SlotNo} {c : List CacheEntry} {x : CacheEntry}
    (h : x ∈ purgeCache n k c) : ¬ (x.ref.slice = n ∧ x.ref.slot = k) := by
  have hx := (List.mem_filter.mp h).2
  simpa [imp_iff_not_or] using hx

theorem purgeCache_subperm (n : SliceNo) (k : SlotNo) (c : List CacheEntry) :
    (purgeCache n k c).Subperm c := List.filter_sublist.subperm

theorem markSliceDirty_codes (n : SliceNo) (s : State) : SameCodes s (markSliceDirty n s) := by
  intro m
  rw [markSliceDirty_binding]
  split_ifs with e
  · rw [e]; exact map_issuer_of_mark fun _ => rfl
  · rfl

/-- What a slot may become beside its slice's entry. -/
structure SlotBecomes (s : State) (n : SliceNo) (x : Slot) : Prop where
  empty_holds_nothing : x.state = .empty → x.info = none ∧ x.key = none
  free_empty : s.binding n = none → x.state = .empty
  live_by_day : ∀ i, x.live = true → x.info = some i → x.state = dayState s.currentDay i

theorem SlotLaw.becomes {s : State} (h : SlotLaw s) (hz : s.device ≠ .zeroized) (n : SliceNo)
    (k : SlotNo) : SlotBecomes s n (s.slot n k) :=
  ⟨h.empty_holds_nothing n k, fun hb => h.free_empty hz n hb k, h.live_by_day n k⟩

theorem SlotSettled.of_becomes {s t : State} {n : SliceNo} {k : SlotNo}
    (h : SlotBecomes s n (t.slot n k)) (hc : SameCodes s t) (hd : t.currentDay = s.currentDay) :
    SlotSettled t n k :=
  ⟨h.empty_holds_nothing, fun _ hb => h.free_empty (hc.binding_eq_none.mp hb),
    fun i hl hi => hd ▸ h.live_by_day i hl hi⟩

/-- The fields that a marked replacement moves. -/
theorem replaceMarked_frame (n : SliceNo) (k : SlotNo) (x : Slot) (s : State) :
    ∃ v d o, markSliceDirty n (replaceSlot n k x s)
      = { s with slices := v, directory := d, nvmOp := o, cache := purgeCache n k s.cache } := by
  unfold markSliceDirty replaceSlot State.setSlot
  exact ⟨_, _, _, rfl⟩

/-- A slot replaced with its epoch raised, its entries purged and its slice marked. -/
theorem replaceMarked_slotsStep {s : State} {n : SliceNo} {k : SlotNo} {x : Slot} (ho : StoreOpen s)
    (hx : SlotLaw s → SlotBecomes s n x) :
    SlotsStep s (markSliceDirty n (replaceSlot n k x s)) := by
  have hslot : ∀ m j, (markSliceDirty n (replaceSlot n k x s)).slot m j =
      if m = n ∧ j = k then { x with epoch := (s.slot n k).epoch + 1 } else s.slot m j :=
    fun m j => replaceSlot_slot n m k j x s
  have hcodes : SameCodes s (markSliceDirty n (replaceSlot n k x s)) := markSliceDirty_codes n _
  obtain ⟨hnone, hload, hzero⟩ := ho
  obtain ⟨v, d, o, he⟩ := replaceMarked_frame n k x s
  rw [he] at hslot hcodes ⊢
  refine
    { toLatched := .of_moves rfl (.inl rfl)
      day := le_rfl
      codes := hcodes
      cache := purgeCache_subperm n k s.cache
      fifo := .refl _
      no_load := hnone
      not_loading := hload
      settled := fun hs m j => ?_
      epochs := fun _ m j => ?_
      works := fun _ _ e w ref he hr => .inl ⟨e, w, he, hr⟩ }
  · refine .of_becomes (s := s) ?_ hcodes rfl
    rw [hslot]
    split_ifs with e
    · obtain ⟨hempty, hfree, hday⟩ := hx hs
      rw [e.1]
      exact ⟨hempty, hfree, hday⟩
    · exact hs.becomes hzero m j
  · unfold EpochKept
    rw [hslot]
    split_ifs with e
    · obtain ⟨rfl, rfl⟩ := e
      exact .inr ⟨rfl, fun y hy => not_mem_purgeCache hy⟩
    · exact .inl ⟨rfl, id⟩

/-- The generations after one slot was replaced by one of its own generation or of none. -/
theorem replaceMarked_carried {s : State} {n : SliceNo} {k : SlotNo} {x : Slot}
    (hx : ∀ g, x.gen? = some g → (s.slot n k).gen? = some g) (m : SliceNo) (j : SlotNo) (g : Byte)
    (h : ((markSliceDirty n (replaceSlot n k x s)).slot m j).gen? = some g) :
    (s.slot m j).gen? = some g := by
  change ((replaceSlot n k x s).slot m j).gen? = some g at h
  rw [replaceSlot_slot] at h
  split_ifs at h with e
  · rw [e.1, e.2]; exact hx g h
  · exact h

/-- A FAULTY slot emptied: no serving slot is touched and no epoch moves. -/
theorem eraseFaulty_slotsStep {s : State} {n : SliceNo} {k : SlotNo} (ho : StoreOpen s)
    (hk : (s.slot n k).serving = false) : SlotsStep s (eraseFaulty n k s) := by
  have hslot : ∀ m j, (eraseFaulty n k s).slot m j =
      if m = n ∧ j = k then (s.slot n k).cleared else s.slot m j :=
    fun m j => State.slot_setSlot s n m k j _
  obtain ⟨hnone, hload, hzero⟩ := ho
  refine
    { toLatched := .of_moves rfl (.inl rfl)
      day := le_rfl
      codes := markSliceDirty_codes n _
      cache := .refl _
      fifo := .refl _
      no_load := hnone
      not_loading := hload
      settled := fun hs m j => ?_
      epochs := fun _ m j => ?_
      works := fun _ _ e w ref he hr => .inl ⟨e, w, he, hr⟩ }
  · refine .of_becomes (s := s) ?_ (markSliceDirty_codes n _) rfl
    rw [hslot]
    split_ifs
    · exact ⟨fun _ => ⟨rfl, rfl⟩, fun _ => rfl, fun i hl => by cases hl⟩
    · exact hs.becomes hzero m j
  · refine .inl ?_
    rw [hslot]
    split_ifs with e
    · obtain ⟨rfl, rfl⟩ := e
      exact ⟨rfl, fun h => by rw [hk] at h; cases h⟩
    · exact ⟨rfl, id⟩

theorem eraseFaulty_step {s : State} {n : SliceNo} {k : SlotNo} (ho : StoreOpen s)
    (hk : (s.slot n k).serving = false) : KeyStep s (eraseFaulty n k s) := by
  refine (eraseFaulty_slotsStep ho hk).step_of_carried fun _ m j g hg => ?_
  change ((s.setSlot n k (s.slot n k).cleared).slot m j).gen? = some g at hg
  rw [State.slot_setSlot] at hg
  split_ifs at hg
  · cases hg
  · exact hg

end Sys2Proof.Machine
end

section
namespace Sys2Proof.Machine

/-! ## Reads that find errors (R76, R77) -/

/-- A slot after an uncorrectable read. -/
def Slot.faulted (x : Slot) : Slot := { x with state := .faulty, key := none, epoch := x.epoch + 1 }

theorem Slot.gen?_faulted {x : Slot} (h : x.state ≠ .empty) : x.faulted.gen? = x.gen? := by
  simp [Slot.gen?, Slot.faulted, h]

/-- From `s` to `t` the key store alone changes, and of it slots that held a key become FAULTY, each with its
entries purged; no slot does so twice. -/
structure KeysFault (s t : State) : Prop where
  only : KeyStoreOnly s t
  codes : SameCodes s t
  cache : t.cache.Subperm s.cache
  slots : ∀ n k, t.slot n k = s.slot n k
    ∨ ((s.slot n k).state ≠ .faulty ∧ (s.slot n k).state ≠ .empty ∧ t.slot n k = (s.slot n k).faulted
      ∧ ∀ x ∈ t.cache, ¬ (x.ref.slice = n ∧ x.ref.slot = k))

theorem KeysFault.refl (s : State) : KeysFault s s :=
  ⟨.refl s, fun _ => rfl, .refl _, fun _ _ => .inl rfl⟩

theorem KeysFault.trans {s t u : State} (h : KeysFault s t) (g : KeysFault t u) : KeysFault s u where
  only := h.only.trans g.only
  codes n := (g.codes n).trans (h.codes n)
  cache := g.cache.trans h.cache
  slots n k := by
    rcases h.slots n k with e | ⟨h1, h2, e, hp⟩ <;> rcases g.slots n k with e' | ⟨g1, g2, e', gp⟩
    · exact .inl (e'.trans e)
    · rw [e] at g1 g2 e'
      exact .inr ⟨g1, g2, e', gp⟩
    · exact .inr ⟨h1, h2, e'.trans e, fun x hx => hp x (g.cache.subset hx)⟩
    · rw [e] at g1
      exact absurd rfl g1

theorem makeFaulty_keysFault {n : SliceNo} {k : SlotNo} {s : State} (h1 : (s.slot n k).state ≠ .faulty)
    (h2 : (s.slot n k).state ≠ .empty) : KeysFault s (makeFaulty n k s) where
  only := makeFaulty_keyStoreOnly n k s
  codes := markSliceDirty_codes n _
  cache := purgeCache_subperm n k s.cache
  slots m j := by
    rw [makeFaulty_slot]
    split_ifs with e
    · obtain ⟨rfl, rfl⟩ := e
      exact .inr ⟨h1, h2, rfl, fun x hx => not_mem_purgeCache hx⟩
    · exact .inl rfl

theorem KeysFault.slotsStep {s t : State} (h : KeysFault s t) (ho : StoreOpen s) : SlotsStep s t := by
  obtain ⟨hnone, hload, hzero⟩ := ho
  have hcodes := h.codes
  have hcache := h.cache
  have hslots := h.slots
  obtain ⟨_, _, _, _, rfl⟩ := h.only
  refine
    { toLatched := .of_moves rfl (.inl rfl)
      day := le_rfl
      codes := hcodes
      cache := hcache
      fifo := .refl _
      no_load := hnone
      not_loading := hload
      settled := fun hs n k => .of_becomes (s := s) ?_ hcodes rfl
      epochs := fun _ n k => ?_
      works := fun _ _ e w ref he hr => .inl ⟨e, w, he, hr⟩ }
  · rcases hslots n k with e | ⟨_, hne, e, _⟩ <;> rw [e]
    · exact hs.becomes hzero n k
    · exact ⟨nofun, fun hb => absurd hb (hs.bound hzero hne), fun i hl => by cases hl⟩
  · rcases hslots n k with e | ⟨_, _, e, hp⟩
    · exact .inl ⟨by rw [e], fun hk => by rw [e]; exact hk⟩
    · exact .inr ⟨by rw [e]; rfl, hp⟩

theorem KeysFault.carried {s t : State} (h : KeysFault s t) (n : SliceNo) (k : SlotNo) (g : Byte)
    (hg : (t.slot n k).gen? = some g) : (s.slot n k).gen? = some g := by
  rcases h.slots n k with e | ⟨_, hne, e, _⟩ <;> rw [e] at hg
  · exact hg
  · rwa [Slot.gen?_faulted hne] at hg

theorem KeysFault.step {s t : State} (h : KeysFault s t) (ho : StoreOpen s) : KeyStep s t :=
  (h.slotsStep ho).step_of_carried fun _ => h.carried

/-! ### The snapshot of a COMMIT (R129) -/

theorem snapshotReads_keysFault (lane : LaneNo) (n : SliceNo) (ks : List SlotNo) (s : State) :
    KeysFault s (snapshotReads lane n ks s).1 := by
  induction ks generalizing s with
  | nil => exact .refl s
  | cons k ks ih =>
    unfold snapshotReads
    split
    · next hk =>
      split
      · exact ih s
      · exact ih s
      · refine (makeFaulty_keysFault ?_ ?_).trans (ih _) <;> intro h <;>
          simp [Slot.holdsKey, Slot.live, h] at hk
    · exact ih s

theorem snapshotState_keysFault (lane : LaneNo) (t : CommitTarget) (s : State) :
    KeysFault s (snapshotState lane t s).1 := by
  cases t with
  | directory => exact .refl s
  | slice n _ => exact snapshotReads_keysFault lane n _ s

/-! ### The reads of a dispatch (R48, R50) -/

/-- A key-bearing lookup captures a slot that serves. -/
theorem captured_of_lookup {s : State} {r : PassRequest} {ref : SlotRef} (h : lookup s r = .bearing ref) :
    Captured s ref := by
  refine ⟨lookup_epoch h, ?_⟩
  unfold lookup at h
  split at h
  · cases h
  · unfold genLookup at h
    split at h
    · split_ifs at h
    · split at h <;> cases h
      · next hst => exact (serving_iff _).mpr (.inl hst)
      · next hst => exact (serving_iff _).mpr (.inr hst)

theorem masterRead_keysFault {s : State} {r : PassRequest} {ref : SlotRef}
    (h : lookup s r = .bearing ref) : KeysFault s (masterRead s r ref).state := by
  have hserv := (serving_iff _).mp (captured_of_lookup h).2
  unfold masterRead
  split
  · exact .refl s
  · exact .refl s
  · exact makeFaulty_keysFault (by rcases hserv with e | e <;> rw [e] <;> decide)
      (by rcases hserv with e | e <;> rw [e] <;> decide)

theorem findKey_keysFault (s : State) (r : PassRequest) : KeysFault s (findKey s r).state := by
  unfold findKey
  split
  · exact .refl s
  · next ref href =>
    split
    · next y hy =>
      exact ⟨⟨_, _, _, _, rfl⟩, fun _ => rfl,
        (List.perm_cons_erase (List.mem_of_find?_eq_some hy)).symm.subperm, fun _ _ => .inl rfl⟩
    · exact masterRead_keysFault href

/-- A request that steps 1 to 4 leave with a slot reference has it from the lookup, and its slot stands. -/
theorem findKey_ref {s : State} {r : PassRequest} {ref : SlotRef} (h : (findKey s r).ref = some ref) :
    lookup s r = .bearing ref ∧ ∀ n k, (findKey s r).state.slot n k = s.slot n k := by
  unfold findKey at h ⊢
  cases hl : lookup s r with
  | noKey v => rw [hl] at h; cases h
  | bearing ref' =>
    simp only [hl] at h ⊢
    cases hy : cacheProbe s r ref' with
    | some y =>
      simp only [hy] at h ⊢
      cases h
      exact ⟨rfl, fun _ _ => rfl⟩
    | none =>
      simp only [hy] at h ⊢
      unfold masterRead at h ⊢
      cases hk : readKey (s.slot ref'.slice ref'.slot) <;> simp only [hk] at h ⊢
      case failed => cases h
      all_goals
        cases h
        exact ⟨rfl, fun _ _ => trivial⟩

/-- The slot whose key evidence is made with is ACTIVE. -/
theorem active_of_evidenceSlot {s : State} {k : SlotNo} (h : s.evidenceSlot = some k) :
    (s.slot 0 k).state = .active := by
  unfold State.evidenceSlot at h
  split at h
  · cases h
  · have hk := List.find?_some h
    simp only [Bool.and_eq_true, beq_iff_eq] at hk
    exact hk.1

/-- The evidence-key reads touch slice 0 only. -/
theorem readEvidence_keysFault (lane : LaneNo) (fuel : Nat) (s : State) :
    KeysFault s (readEvidence lane fuel s).state
      ∧ ∀ n k, n ≠ 0 → (readEvidence lane fuel s).state.slot n k = s.slot n k := by
  induction fuel generalizing s with
  | zero => exact ⟨.refl s, fun _ _ _ => rfl⟩
  | succ fuel ih =>
    unfold readEvidence
    split
    · exact ⟨.refl s, fun _ _ _ => rfl⟩
    · next k hk =>
      have hact := active_of_evidenceSlot hk
      split
      · exact ⟨.refl s, fun _ _ _ => rfl⟩
      · exact ⟨.refl s, fun _ _ _ => rfl⟩
      · obtain ⟨hf, hs⟩ := ih (makeFaulty 0 k s)
        refine ⟨(makeFaulty_keysFault ?_ ?_).trans hf, fun n j hn => (hs n j hn).trans ?_⟩
        · rw [hact]; decide
        · rw [hact]; decide
        · rw [makeFaulty_slot, if_neg fun e => hn e.1]

theorem decideEvidence_keysFault (s : State) (r : PassRequest) :
    KeysFault s (decideEvidence s r).state
      ∧ ∀ n k, n ≠ 0 → (decideEvidence s r).state.slot n k = s.slot n k := by
  unfold decideEvidence
  split
  · exact readEvidence_keysFault _ _ s
  · exact ⟨.refl s, fun _ _ _ => rfl⟩

/-- Slice 0 is the station's, whose issuer no lookup finds (R46, R71). -/
theorem slice_ne_zero_of_lookup {s : State} {r : PassRequest} {ref : SlotRef}
    (h : lookup s r = .bearing ref) (hd : DirectoryLaw s) (hz : s.device ≠ .zeroized) :
    ref.slice ≠ 0 := by
  intro h0
  have hn := issuerSlice_of_bearing h
  unfold State.issuerSlice at hn
  split_ifs at hn with hi
  have hb := List.find?_some hn
  obtain ⟨b, hb0, hzero⟩ := hd.station_bound hz
  rw [h0, hb0] at hb
  simp only [Option.map_some, beq_iff_eq, Option.some.injEq] at hb
  exact hi (hb.symm.trans hzero)

/-! ### Dispatch (R33, R36) -/

/-- A step of slots that ends with a request put into an engine. -/
theorem SlotsStep.withWork {s t : State} (h : SlotsStep s t) {e : EngineNo} {w : PassWork}
    (hw : SlotLaw s → DirectoryLaw s → ∀ ref, w.ref = some ref → Captured t ref) :
    SlotsStep s (t.setEngine e (some (.pass w))) :=
  { h with
    settled := fun hs n k => by
      obtain ⟨h1, h2, h3⟩ := h.settled hs n k
      exact ⟨h1, h2, h3⟩
    works := fun hs hd f x ref hf hr => by
      rw [State.engine_setEngine] at hf
      split_ifs at hf
      · cases hf
        exact .inr (hw hs hd ref hr)
      · exact h.works hs hd f x ref hf hr }

theorem spendSerial_keyStands (s : State) : KeyStands s (spendSerial s) := by
  unfold spendSerial
  split_ifs <;> exact .of_fields rfl rfl rfl rfl rfl

theorem spendSerial_setEngine (e : EngineNo) (w : Option EngineWork) (s : State) :
    (spendSerial s).setEngine e w = spendSerial (s.setEngine e w) := by
  unfold spendSerial
  rw [State.setEngine_issueCount]
  split_ifs <;> rfl

/-- A request that runs: completed at once, or in an engine with a slot reference just captured. -/
theorem runRequest_step {s t : State} (h : SlotsStep s t)
    (hg : SlotLaw s → ∀ n k g, (t.slot n k).gen? = some g → (s.slot n k).gen? = some g) (e : EngineNo)
    {w : PassWork} (hw : SlotLaw s → DirectoryLaw s → ∀ ref, w.ref = some ref → Captured t ref) :
    KeyStep s (runRequest e w t) := by
  have hrun := (h.withWork (e := e) hw).step_of_carried hg
  unfold runRequest
  dsimp only
  split
  · refine (h.step_of_carried hg).andThen (.after (makeEntry_keyStands _ _) ?_)
    split_ifs
    · exact spendSerial_keyStands t
    · exact .refl t
  · split_ifs
    · rw [spendSerial_setEngine]
      exact hrun.andThen (spendSerial_keyStands _)
    · exact hrun

theorem dispatchRequest_step (e : EngineNo) (r : PassRequest) {s : State} (ha : s.active = true)
    (hc : ControlLaw s) : KeyStep s (dispatchRequest e r s) := by
  have hq : KeyStands s (unqueue r s) := setLane_keyStands _ _ s
  have hcu : ControlLaw (unqueue r s) :=
    NothingBegins.keeps (s := s) (.of_fields rfl rfl rfl rfl rfl rfl) hc
  have hk := findKey_keysFault (unqueue r s) r
  obtain ⟨hev, hslots⟩ := decideEvidence_keysFault (findKey (unqueue r s) r).state r
  have hall := hk.trans hev
  have hstep := hall.slotsStep (s := unqueue r s) (.of_active ha hcu)
  unfold dispatchRequest
  dsimp only
  refine (hq.thenStep ?_).andThen (raiseReports_keyStands _ _)
  split
  · exact (hstep.step_of_carried fun _ => hall.carried).andThen (makeEntry_keyStands _ _)
  · refine runRequest_step hstep (fun _ => hall.carried) e fun _ hd ref href => ?_
    obtain ⟨hl, hsame⟩ := findKey_ref (s := unqueue r s) (r := r) href
    have hne := slice_ne_zero_of_lookup hl hd (StoreOpen.of_active ha hc).not_zeroized
    have hcap := captured_of_lookup hl
    unfold Captured at hcap ⊢
    rw [hslots _ _ hne, hsame]
    exact hcap

/-- The head in an engine: only the head has begun, as before. -/
theorem grantEngine_step (e : EngineNo) {h : ServiceRequest} {rest : List ServiceRequest} {s : State}
    (hf : s.fifo = h :: rest) (hp : h.phase = .ready) (ho : StoreOpen s) :
    KeyStep s (grantEngine e h rest s) where
  toLatched := .of_moves rfl (.inl rfl)
  directory hd := ⟨hd.codes_distinct, hd.station_bound⟩
  cache hc := ⟨hc.size, hc.distinct⟩
  slots hs := ⟨hs.count_in_step, hs.early_empty, hs.read_bound,
    fun hd => absurd hd ho.not_loading, hs.empty_holds_nothing, hs.free_empty, hs.live_by_day⟩
  generations _ _ hg := by
    refine ⟨hg.distinct, hg.span, fun r hr => hg.head_only r (by rw [hf]; exact hr), ?_⟩
    rintro h' rest' n b k g ⟨⟩ hk _
    exact hg.admitted h rest n b k g hf hk (by rw [hp]; decide)
  serving _ _ _ hv := by
    refine ⟨hv.entries, fun f w ref hfw => ?_⟩
    rw [State.engine_of_set (s := s) (e := e) rfl] at hfw
    split_ifs at hfw
    · cases hfw
    · exact hv.works f w ref hfw
  day := le_rfl

theorem execDispatch_step {s : State} (hc : ControlLaw s) : Answers (KeyStep s) (execDispatch s) := by
  have hsame : KeyStep s s := (KeyStands.refl s).step
  unfold execDispatch
  split
  · next ha _ =>
    split
    · exact .next (dispatchRequest_step _ _ ha hc)
    · split
      · next hf =>
        split_ifs with hp
        · exact .next (grantEngine_step _ hf hp (.of_active ha hc))
        · exact .next hsame
      · exact .next hsame
  · exact .next hsame

/-! ### DERIVE's offer (R117 to R119) -/

/-- An insertion keeps the cache's size and its one entry for each triple. -/
theorem cacheInsert_lawful {y : CacheEntry} {c : List CacheEntry}
    (h : (c.map fun e => (e.issuer, e.gen, e.tagId)).Nodup) :
    (cacheInsert y c).length ≤ 32
      ∧ ((cacheInsert y c).map fun e => (e.issuer, e.gen, e.tagId)).Nodup := by
  unfold cacheInsert
  refine ⟨List.length_take_le _ _, ((List.take_sublist _ _).map _).nodup (List.nodup_cons.mpr ⟨?_, ?_⟩)⟩
  · intro hmem
    obtain ⟨x, hx, he⟩ := List.mem_map.mp hmem
    have hne := (List.mem_filter.mp hx).2
    simp_all [sameTriple]
  · exact (List.filter_sublist.map _).nodup h

theorem mem_cacheInsert {x y : CacheEntry} {c : List CacheEntry} (h : x ∈ cacheInsert y c) :
    x = y ∨ x ∈ c := by
  rcases List.mem_cons.mp (List.mem_of_mem_take h) with h | h
  · exact .inl h
  · exact .inr (List.mem_of_mem_filter h)

/-- An offer of an engine's keys: accepted only while the slot is at the captured epoch, so it serves. -/
theorem makeOffer_step {e : EngineNo} {w : PassWork} {s : State} (he : s.engine e = some (.pass w))
    (hl : s.device ≠ .loading) (keys : KeyMaterial) : KeyStep s (makeOffer w keys s) := by
  unfold makeOffer cacheOffer
  split
  · next ref href =>
    split_ifs with hep
    · exact
        { toLatched := .of_moves rfl (.inl rfl)
          directory := fun hd => ⟨hd.codes_distinct, hd.station_bound⟩
          cache := fun hc => by
            obtain ⟨h1, h2⟩ := cacheInsert_lawful (y := offerEntry w ref keys) hc.distinct
            exact ⟨h1, h2⟩
          slots := fun hs => ⟨hs.count_in_step, hs.early_empty, hs.read_bound,
            fun hd => absurd hd hl, hs.empty_holds_nothing, hs.free_empty, hs.live_by_day⟩
          generations := fun _ _ hg => ⟨hg.distinct, hg.span, hg.head_only, hg.admitted⟩
          serving := fun _ _ _ hv => by
            refine ⟨fun x hx => ?_, hv.works⟩
            rcases mem_cacheInsert hx with rfl | hx
            · exact ⟨(hv.works e w ref he href).2 hep, hep⟩
            · exact hv.entries x hx
          day := le_rfl }
    · exact (KeyStands.refl s).step
  · exact (KeyStands.refl s).step

theorem execDeriveComplete_step (e : EngineNo) {s : State} (hc : ControlLaw s) :
    Answers (KeyStep s) (execDeriveComplete e s) := by
  unfold execDeriveComplete
  split
  · exact .next (KeyStands.refl s).step
  · next w hw =>
    have he := engine_eq_of_workAt hw
    have hl := (StoreOpen.of_engine he hc).not_loading
    refine .next (((runTo_keyStands s w.stageEnd).thenStep
      (makeOffer_step (s := s.runTo w.stageEnd) he hl _)).andThen (nextStage_keyStands (v := w) ?_ rfl))
    rw [makeOffer_engine]
    exact he

end Sys2Proof.Machine
end

section
namespace Sys2Proof.Machine

/-! ## The generation order (R78, R79, R100) -/

theorem mem_genList {s : State} {n : SliceNo} {g : Byte} :
    g ∈ s.genList n ↔ ∃ k, (s.slot n k).gen? = some g := by
  simp [State.genList, mem_allSlots]

theorem slotOfGen_isSome_iff {s : State} {n : SliceNo} {g : Byte} :
    (s.slotOfGen n g).isSome = true ↔ g ∈ s.genList n := by
  simp [mem_genList, State.slotOfGen, mem_allSlots]

/-- Serial distance 0 is equality. -/
theorem eq_of_serial_zero {a b : Byte} (h : (a - b).toNat = 0) : a = b := by
  bv_omega

theorem newestGen_eq {gs : List Byte} {w : Byte} (hw : w ∈ gs)
    (h : ∀ y ∈ gs, y = w ∨ newerGen w y = true) : newestGen gs = some w := by
  cases gs with
  | nil => cases hw
  | cons a gs => exact congrArg some (foldl_best (fun _ => newerGen_asymm) hw h)

theorem oldestGen_eq {gs : List Byte} {o : Byte} (ho : o ∈ gs)
    (h : ∀ y ∈ gs, y = o ∨ newerGen y o = true) : oldestGen gs = some o := by
  cases gs with
  | nil => cases ho
  | cons a gs =>
    exact congrArg some (foldl_best (p := fun a b => newerGen b a) (fun _ => newerGen_asymm) ho h)

/-- All of a list of generations lie within a span of 127 from one of them. -/
def SpanFrom (o : Byte) (gs : List Byte) : Prop := o ∈ gs ∧ ∀ y ∈ gs, (y - o).toNat ≤ 127

theorem genLaw_iff (gs : List Byte) :
    genLaw gs = true ↔ gs.Nodup ∧ (gs = [] ∨ ∃ o, SpanFrom o gs) := by
  simp [genLaw, SpanFrom]

/-- Within a span, what lies further from the oldest is newer. -/
theorem newer_of_further {o a b : Byte} (hb : (b - o).toNat ≤ 127)
    (h : (a - o).toNat < (b - o).toNat) : newerGen b a = true := by
  rw [newerGen_iff, serial_sub h.le]
  omega

theorem SpanFrom.oldest {o : Byte} {gs : List Byte} (h : SpanFrom o gs) : oldestGen gs = some o := by
  obtain ⟨ho, hall⟩ := h
  refine oldestGen_eq ho fun y hy => or_iff_not_imp_left.mpr fun hne => ?_
  rw [newerGen_iff]
  exact ⟨Nat.one_le_iff_ne_zero.mpr fun hz => hne (eq_of_serial_zero hz), hall y hy⟩

/-- The newest of a span is the one furthest from the oldest. -/
theorem SpanFrom.newest {o : Byte} {gs : List Byte} (h : SpanFrom o gs) :
    ∃ w, newestGen gs = some w ∧ w ∈ gs ∧ ∀ y ∈ gs, (y - o).toNat ≤ (w - o).toNat := by
  obtain ⟨ho, hall⟩ := h
  obtain ⟨w, hw, hmax⟩ := gs.toFinset.exists_max_image (fun y => (y - o).toNat)
    ⟨o, List.mem_toFinset.mpr ho⟩
  simp only [List.mem_toFinset] at hw hmax
  refine ⟨w, newestGen_eq hw fun y hy => ?_, hw, hmax⟩
  rcases (hmax y hy).eq_or_lt with he | hlt
  · refine .inl (eq_of_serial_zero ?_)
    rw [serial_sub (o := o) he.ge, he, Nat.sub_self]
  · exact .inr (newer_of_further (hall w hw) hlt)

/-- The tests of GEN_ORDER, in the words of R79. -/
theorem genRefused_eq_false_iff {s : State} {n : SliceNo} {g : Byte} :
    genRefused s n g = false ↔ g ∉ s.genList n
      ∧ (∀ w, newestGen (s.genList n) = some w → newerGen g w = true)
      ∧ (∀ o, oldestGen (s.genList n) = some o → (g - o).toNat ≤ 127) := by
  unfold genRefused
  rw [Bool.or_eq_false_iff, Bool.or_eq_false_iff, and_assoc, ← slotOfGen_isSome_iff, Bool.not_eq_true]
  refine and_congr_right fun _ => and_congr ?_ ?_
  · cases newestGen (s.genList n) <;> simp
  · cases oldestGen (s.genList n) <;> simp

/-- An admitted generation lies within the span of 127 and is newer than every one of it. -/
theorem SpanFrom.admitted {s : State} {n : SliceNo} {g o : Byte} (h : SpanFrom o (s.genList n))
    (hg : genRefused s n g = false) :
    (g - o).toNat ≤ 127 ∧ ∀ y ∈ s.genList n, newerGen g y = true := by
  obtain ⟨_, hnew, hold⟩ := genRefused_eq_false_iff.mp hg
  have hgo := hold o h.oldest
  obtain ⟨w, hw, hmem, hmax⟩ := h.newest
  refine ⟨hgo, fun y hy => newer_of_further hgo ?_⟩
  have hnw := (newerGen_iff g w).mp (hnew w hw)
  have hwo := h.2 w hmem
  have hyw := hmax y hy
  simp only [BitVec.toNat_sub] at hnw hwo hgo hyw ⊢
  omega

/-- Settles O39: in a span, distances from the oldest order the generations. -/
theorem admissibleGenerations : Obligations.AdmissibleGenerations := by
  unfold Obligations.AdmissibleGenerations
  intro s n g
  refine ⟨fun hnil => ?_, fun o w ho hw => ?_, fun hlaw hg => ?_⟩
  · rw [genRefused_eq_false_iff, hnil]
    exact ⟨List.not_mem_nil, nofun, nofun⟩
  · rw [genRefused_eq_false_iff, ho, hw]
    simp only [Option.some.injEq, forall_eq', newerGen_iff, and_assoc]
  · obtain ⟨hnodup, hspan⟩ := (genLaw_iff _).mp hlaw
    have hfresh := (genRefused_eq_false_iff.mp hg).1
    have hnodup' : (s.genList n ++ [g]).Nodup := List.concat_eq_append ▸ hnodup.concat hfresh
    rw [genLaw_iff]
    have hmem : g ∈ s.genList n ++ [g] := List.mem_append_right _ List.mem_cons_self
    rcases hspan with hnil | ⟨o, ho⟩
    · rw [hnil]
      refine ⟨⟨List.nodup_singleton g, .inr ⟨g, List.mem_cons_self, fun y hy => ?_⟩⟩, rfl⟩
      rw [List.mem_singleton.mp hy, BitVec.sub_self]
      decide
    · obtain ⟨hgo, hnew⟩ := ho.admitted hg
      have hor : ∀ y ∈ s.genList n ++ [g], y ∈ s.genList n ∨ y = g := fun y hy => by simpa using hy
      refine ⟨⟨hnodup', .inr ⟨o, List.mem_append_left _ ho.1, fun y hy => ?_⟩⟩,
        newestGen_eq hmem fun y hy => ?_⟩
      · rcases hor y hy with hy | rfl
        · exact ho.2 y hy
        · exact hgo
      · exact (hor y hy).symm.imp_right (hnew y)

end Sys2Proof.Machine
end

section
namespace Sys2Proof.Machine

/-! ## Service requests and the laws of the key store -/

/-- A found slice is bound to the code (R95). -/
theorem binding_of_sliceOf {s : State} {issuer : Half} {n : SliceNo} (h : s.sliceOf issuer = some n) :
    ∃ b, s.binding n = some b ∧ b.issuer = issuer := by
  have hn := List.find?_some h
  simpa using hn

theorem unbound_of_sliceOf {s : State} {issuer : Half} (h : s.sliceOf issuer = none) :
    Unbound s issuer := by
  intro m b hm hb
  refine List.find?_eq_none.mp h m (mem_allSlices m) ?_
  rw [hm, Option.map_some, hb, beq_self_eq_true]

theorem of_lowestFree {s : State} {n : SliceNo} (h : s.lowestFree = some n) :
    n ≠ 0 ∧ s.binding n = none := by
  have hn := List.find?_some h
  simp only [Bool.and_eq_true, bne_iff_ne, Option.isNone_iff_eq_none] at hn
  exact ⟨fun e => hn.1 (congrArg Fin.val e), hn.2⟩

/-! ### ISSUER_ADD, ISSUER_REMOVE and ISSUER_LOCK -/

/-- An entry rewritten under a head that has not begun: the directory law is to be seen to, and that the slots
of a freed slice are EMPTY. -/
theorem rebind_step {s : State} {n : SliceNo} {b : Option Binding} {h : ServiceRequest}
    {rest : List ServiceRequest} (ho : StoreOpen s) (hf : s.fifo = h :: rest) (hp : h.phase = .waiting)
    (hd : DirectoryLaw s → DirectoryLaw (s.setBinding n b))
    (hempty : b = none → ∀ k, (s.slot n k).state = .empty) :
    KeyStep s (markDirectoryDirty (s.setBinding n b)) where
  toLatched := .of_moves rfl (.inl rfl)
  directory hs := ⟨(hd hs).codes_distinct, (hd hs).station_bound⟩
  cache hc := ⟨hc.size, hc.distinct⟩
  slots hs := by
    refine .of_settled (.of_no_load ho.no_load) (fun hl => absurd hl ho.not_loading) fun m k => ?_
    refine ⟨hs.empty_holds_nothing m k, fun hz hb => ?_, hs.live_by_day m k⟩
    change (s.setBinding n b).binding m = none at hb
    rw [State.binding_setBinding] at hb
    split_ifs at hb with e
    · exact e ▸ hempty hb k
    · exact hs.free_empty hz m hb k
  generations _ _ hg := by
    refine ⟨hg.distinct, hg.span, hg.head_only, ?_⟩
    intro h' rest' m c k g hf' _ hph
    obtain ⟨rfl, _⟩ := List.cons.inj (hf.symm.trans hf')
    exact absurd hp hph
  serving _ _ _ hv := ⟨hv.entries, hv.works⟩
  day := le_rfl

/-- A code that no slice is bound to may be bound to a slice but slice 0. -/
theorem DirectoryLaw.add {s : State} (h : DirectoryLaw s) {n : SliceNo} {b : Binding} (hn : n ≠ 0)
    (hu : Unbound s b.issuer) : DirectoryLaw (s.setBinding n (some b)) where
  codes_distinct i j c d hi hj hcd := by
    rw [State.binding_setBinding] at hi hj
    split_ifs at hi hj with ei ej ej
    · rw [ei, ej]
    · cases hi
      exact absurd hcd.symm (hu j d hj)
    · cases hj
      exact absurd hcd (hu i c hi)
    · exact h.codes_distinct i j c d hi hj hcd
  station_bound hz := by
    rw [State.binding_setBinding, if_neg hn.symm]
    exact h.station_bound hz

/-- Any entry but that of slice 0 may go. -/
theorem DirectoryLaw.remove {s : State} (h : DirectoryLaw s) {n : SliceNo} (hn : n ≠ 0) :
    DirectoryLaw (s.setBinding n none) where
  codes_distinct i j c d hi hj hcd := by
    rw [State.binding_setBinding] at hi hj
    split_ifs at hi hj
    exact h.codes_distinct i j c d hi hj hcd
  station_bound hz := by
    rw [State.binding_setBinding, if_neg hn.symm]
    exact h.station_bound hz

theorem runIssuerAdd_step {s : State} {h : ServiceRequest} {rest : List ServiceRequest}
    (ho : StoreOpen s) (hf : s.fifo = h :: rest) (hp : h.phase = .waiting) :
    KeyStep s (runIssuerAdd h s) := by
  have hsame : ∀ st fields, KeyStep s (finish h st fields s) :=
    fun _ _ => (finish_keyStands h _ _ s).step
  unfold runIssuerAdd
  dsimp only
  split_ifs
  · exact hsame _ _
  · split
    · exact hsame _ _
    · exact hsame _ _
  · split
    · exact hsame _ _
    · next hs =>
      split
      · exact hsame _ _
      · next n hn =>
        refine (rebind_step ho hf hp (fun hd => ?_) fun hb => ?_).andThen (finish_keyStands ..)
        · exact hd.add (of_lowestFree hn).1 (unbound_of_sliceOf hs)
        · cases hb

/-- A slice with no slot in use is empty. -/
theorem empty_of_inUse {s : State} {n : SliceNo} (h : s.inUse n = 0) (k : SlotNo) :
    (s.slot n k).state = .empty := by
  have hk := List.countP_eq_zero.mp h k (mem_allSlots k)
  simpa using hk

theorem runIssuerRemove_step {s : State} {h : ServiceRequest} {rest : List ServiceRequest}
    (ho : StoreOpen s) (hf : s.fifo = h :: rest) (hp : h.phase = .waiting) :
    KeyStep s (runIssuerRemove h s) := by
  have hsame : ∀ st fields, KeyStep s (finish h st fields s) :=
    fun _ _ => (finish_keyStands h _ _ s).step
  unfold runIssuerRemove
  dsimp only
  split_ifs with h0
  · exact hsame _ _
  · split
    · exact hsame _ _
    · next n hn =>
      split_ifs with _ _ hin
      · exact hsame _ _
      · exact hsame _ _
      · exact hsame _ _
      · refine (rebind_step ho hf hp (fun hd => hd.remove ?_) fun _ => ?_).andThen (finish_keyStands ..)
        · rintro rfl
          obtain ⟨b, hb, hi⟩ := binding_of_sliceOf hn
          obtain ⟨c, hc, hz⟩ := hd.station_bound ho.not_zeroized
          cases hb.symm.trans hc
          exact h0 (hi.symm.trans hz)
        · exact empty_of_inUse (not_not.mp hin)

theorem runIssuerLock_keyStands (h : ServiceRequest) (s : State) : KeyStands s (runIssuerLock h s) := by
  unfold runIssuerLock
  split
  · exact finish_keyStands ..
  · exact (setBinding_keyStands (map_issuer_of_mark (f := fun b => { b with locked := true })
      fun _ => rfl)).trans (finish_keyStands ..)

/-! ### KEY_STAGE and TRANSPORT_REPLACE -/

/-- A slice that carries a generation has an oldest one. -/
theorem GenerationLaw.spanFrom {s : State} (h : GenerationLaw s) {n : SliceNo} {k : SlotNo} {g : Byte}
    (hk : (s.slot n k).gen? = some g) : ∃ o, SpanFrom o (s.genList n) := by
  obtain ⟨j, o, ho, hall⟩ := h.span n k g hk
  refine ⟨o, mem_genList.mpr ⟨j, ho⟩, fun y hy => ?_⟩
  obtain ⟨i, hi⟩ := mem_genList.mp hy
  exact hall i y hi

/-- The head passes its checks: a KEY_STAGE with a generation that its slice admits. -/
theorem becomeReady_step {s : State} {h : ServiceRequest} {rest : List ServiceRequest}
    (ho : StoreOpen s) (hf : s.fifo = h :: rest)
    (hadm : h.kind = .keyStage → ∃ n, s.sliceOf (srvIssuer h.cell.bytes) = some n
      ∧ genRefused s n (srvGen h.cell.bytes) = false) : KeyStep s (becomeReady s) where
  toLatched := .of_moves rfl (.inl rfl)
  directory hd := ⟨hd.codes_distinct, hd.station_bound⟩
  cache hc := ⟨hc.size, hc.distinct⟩
  slots hs := ⟨hs.count_in_step, hs.early_empty, hs.read_bound, fun hl => absurd hl ho.not_loading,
    hs.empty_holds_nothing, hs.free_empty, hs.live_by_day⟩
  generations _ hd hg := by
    have hready : (becomeReady s).fifo = { h with phase := .ready } :: rest := by
      simp only [becomeReady, hf]
    refine ⟨hg.distinct, hg.span, fun r hr => hg.head_only r ?_, ?_⟩
    · rw [hready] at hr
      rw [hf]
      exact hr
    · intro h' rest' m c k g hf' hkind _ hm hi hgen
      obtain ⟨rfl, _⟩ := List.cons.inj (hready.symm.trans hf')
      obtain ⟨n, hn, hrefuse⟩ := hadm hkind
      obtain ⟨b, hb, hbi⟩ := binding_of_sliceOf hn
      obtain rfl := hd.codes_distinct m n c b hm hb (hi.trans hbi.symm)
      obtain ⟨o, hspan⟩ := hg.spanFrom hgen
      exact (newerGen_iff _ _).mp ((hspan.admitted hrefuse).2 g (mem_genList.mpr ⟨k, hgen⟩))
  serving _ _ _ hv := ⟨hv.entries, hv.works⟩
  day := le_rfl

theorem runKeyStage_step {s : State} {h : ServiceRequest} {rest : List ServiceRequest}
    (ho : StoreOpen s) (hf : s.fifo = h :: rest) : KeyStep s (runKeyStage h s) := by
  have hsame : ∀ st fields, KeyStep s (finish h st fields s) :=
    fun _ _ => (finish_keyStands h _ _ s).step
  unfold runKeyStage
  dsimp only
  split
  · exact hsame _ _
  · next n hn =>
    split_ifs with _ _ _ _ hg
    on_goal 7 => exact becomeReady_step ho hf fun _ => ⟨n, hn, Bool.eq_false_iff.mpr hg⟩
    all_goals exact hsame _ _

theorem runTransportReplace_step {s : State} {h : ServiceRequest} {rest : List ServiceRequest}
    (ho : StoreOpen s) (hf : s.fifo = h :: rest) (hk : h.kind = .transportReplace) :
    KeyStep s (runTransportReplace h s) := by
  unfold runTransportReplace
  split_ifs
  · exact (finish_keyStands ..).step
  · exact (finish_keyStands ..).step
  · exact becomeReady_step ho hf fun h => by rw [hk] at h; cases h

/-! ### KEY_REVOKE and KEY_ERASE -/

theorem Slot.ne_empty_of_live {x : Slot} (h : x.live = true) : x.state ≠ .empty := by
  intro he
  rw [Slot.live, he] at h
  cases h

/-- A LIVE slot revoked. -/
theorem revoke_step {s : State} {n : SliceNo} {k : SlotNo} (ho : StoreOpen s)
    (hk : (s.slot n k).live = true) :
    KeyStep s (markSliceDirty n (replaceSlot n k { s.slot n k with state := .revoked } s)) := by
  have hne := Slot.ne_empty_of_live hk
  refine (replaceMarked_slotsStep ho fun hs => ⟨(by cases ·), fun hb => ?_, fun i hl => by cases hl⟩)
    |>.step_of_carried fun _ => replaceMarked_carried fun g hg => ?_
  · exact absurd (hs.free_empty ho.not_zeroized n hb k) hne
  · simpa [Slot.gen?, hne] using hg

theorem runKeyRevoke_step {s : State} (h : ServiceRequest) (ho : StoreOpen s) :
    KeyStep s (runKeyRevoke h s) := by
  have hsame : ∀ st fields, KeyStep s (finish h st fields s) :=
    fun _ _ => (finish_keyStands h _ _ s).step
  unfold runKeyRevoke
  dsimp only
  split
  · exact hsame _ _
  · split_ifs
    · exact hsame _ _
    · exact hsame _ _
    · split
      · exact hsame _ _
      · refine KeyStep.andThen ?_ (finish_keyStands ..)
        split_ifs with hlive
        · exact revoke_step ho hlive
        · exact (KeyStands.refl s).step

theorem eraseKeyed_step {s : State} (n : SliceNo) (k : SlotNo) (ho : StoreOpen s) :
    KeyStep s (eraseKeyed n k s) :=
  (replaceMarked_slotsStep ho fun _ => ⟨fun _ => ⟨rfl, rfl⟩, fun _ => rfl, fun i hl => by cases hl⟩)
    |>.step_of_carried fun _ => replaceMarked_carried fun g hg => by cases hg

theorem eraseMatched_step {s : State} (h : ServiceRequest) (n : SliceNo) (k : SlotNo)
    (ho : StoreOpen s) : KeyStep s (eraseMatched h n k s) := by
  unfold eraseMatched
  dsimp only
  split
  · exact (finish_keyStands ..).step
  · exact (finish_keyStands ..).step
  · exact (eraseKeyed_step n k ho).andThen (finish_keyStands ..)
  · exact (eraseKeyed_step n k ho).andThen (finish_keyStands ..)
  · exact (eraseKeyed_step n k ho).andThen (finish_keyStands ..)
  · next he => exact (eraseFaulty_step ho (by rw [Slot.serving, he])).andThen (finish_keyStands ..)
  · next he => exact (eraseFaulty_step ho (by rw [Slot.serving, he])).andThen (finish_keyStands ..)

theorem runKeyErase_step {s : State} (h : ServiceRequest) (ho : StoreOpen s) :
    KeyStep s (runKeyErase h s) := by
  have hsame : ∀ st fields, KeyStep s (finish h st fields s) :=
    fun _ _ => (finish_keyStands h _ _ s).step
  unfold runKeyErase
  dsimp only
  split
  · exact hsame _ _
  · split_ifs
    · exact hsame _ _
    · exact hsame _ _
    · split
      · exact eraseMatched_step h _ _ ho
      · split
        · next k hk =>
          have hblank := List.find?_some hk
          simp only [Slot.faultyBlank, Bool.and_eq_true, beq_iff_eq] at hblank
          exact (eraseFaulty_step ho (by rw [Slot.serving, hblank.1])).andThen (finish_keyStands ..)
        · exact hsame _ _

/-! ### SET_DAY -/

/-- The day function, state by state. -/
theorem dayState_iff (d : Half) (i : SlotInfo) :
    (dayState d i = .staged ↔ d.toNat < i.fromDay.toNat)
    ∧ (dayState d i = .active ↔ i.fromDay.toNat ≤ d.toNat ∧ d.toNat ≤ i.toDay.toNat)
    ∧ (i.fromDay.toNat ≤ i.toDay.toNat →
      (dayState d i = .retiring ↔
        i.toDay.toNat < d.toNat ∧ d.toNat ≤ i.toDay.toNat + i.grace.toNat)
      ∧ (dayState d i = .expired ↔ i.toDay.toNat + i.grace.toNat < d.toNat)) := by
  unfold dayState
  split_ifs with h1 h2 h3 <;> simp only [false_iff, true_iff] <;> omega

theorem dayState_cases (d : Half) (i : SlotInfo) : dayState d i = .staged ∨ dayState d i = .active
    ∨ dayState d i = .retiring ∨ dayState d i = .expired := by
  unfold dayState
  split_ifs <;> simp

theorem dayState_live (d : Half) (i : SlotInfo) (x : Slot) (h : x.state = dayState d i) :
    x.live = true := by
  rw [Slot.live, h]
  unfold dayState
  split_ifs <;> rfl

/-- The state after the sweep of a LIVE slot with its fields. -/
theorem sweptState_of_live {d : Half} {x : Slot} {i : SlotInfo} (hl : x.live = true)
    (hi : x.info = some i) : sweptState d x = dayState d i := by
  simp [sweptState, hl, hi]

theorem sweptState_of_not_live {d : Half} {x : Slot} (hl : x.live = false) :
    sweptState d x = x.state := by
  simp [sweptState, hl]

theorem sweptState_of_no_info {d : Half} {x : Slot} (hi : x.info = none) :
    sweptState d x = x.state := by
  simp [sweptState, hi]

theorem sweepSlot_live (d : Half) (x : Slot) : (sweepSlot d x).live = x.live := by
  cases hl : x.live with
  | false =>
    show Slot.live { x with state := sweptState d x, epoch := _ } = false
    rw [sweptState_of_not_live hl]
    exact hl
  | true =>
    cases hi : x.info with
    | none =>
      show Slot.live { x with state := sweptState d x, epoch := _ } = true
      rw [sweptState_of_no_info hi]
      exact hl
    | some i => exact dayState_live d i _ (sweptState_of_live hl hi)

theorem sweepSlot_empty {d : Half} {x : Slot} : (sweepSlot d x).state = .empty ↔ x.state = .empty := by
  cases hl : x.live with
  | false => exact Eq.congr_left (sweptState_of_not_live hl)
  | true =>
    exact iff_of_false (Slot.ne_empty_of_live ((sweepSlot_live d x).trans hl)) (Slot.ne_empty_of_live hl)

theorem sweepSlot_gen (d : Half) (x : Slot) : (sweepSlot d x).gen? = x.gen? := by
  simp only [Slot.gen?, sweepSlot_empty]
  rfl

/-- On a later day a serving slot serves on or EXPIRES. -/
theorem sweptState_of_serving {d e : Half} {x : Slot} {i : SlotInfo} (hday : e.toNat ≤ d.toNat)
    (hs : x.serving = true) (hi : x.info = some i) (hx : x.state = dayState e i) :
    (sweepSlot d x).serving = true ∨ sweptState d x = .expired := by
  have hst : (sweepSlot d x).state = dayState d i := sweptState_of_live (dayState_live e i x hx) hi
  have hfrom : ¬ e.toNat < i.fromDay.toNat := fun hlt => by
    have hstaged := hx.trans ((dayState_iff e i).1.mpr hlt)
    rw [Slot.serving, hstaged] at hs
    cases hs
  rw [serving_iff]
  rcases dayState_cases d i with h | h | h | h
  · exact absurd (hday.trans_lt ((dayState_iff d i).1.mp h)) hfrom
  · exact .inl (.inl (hst.trans h))
  · exact .inl (.inr (hst.trans h))
  · exact .inr (hst.trans h)

theorem Slot.live_of_serving {x : Slot} (h : x.serving = true) : x.live = true := by
  rcases (serving_iff x).mp h with e | e <;> rw [Slot.live, e]

theorem leavesService_iff (d : Half) (x : Slot) :
    leavesService d x = true ↔ x.serving = true ∧ sweptState d x = .expired := by
  simp [leavesService]

/-- A serving slot that does not leave service serves on. -/
theorem sweepSlot_serving {d e : Half} {x : Slot} (hday : e.toNat ≤ d.toNat)
    (hx : ∀ i, x.live = true → x.info = some i → x.state = dayState e i) (hs : x.serving = true)
    (hstay : leavesService d x = false) : (sweepSlot d x).serving = true := by
  cases hi : x.info with
  | none =>
    have hst : (sweepSlot d x).state = x.state := sweptState_of_no_info hi
    rw [serving_iff] at hs ⊢
    rwa [hst]
  | some i =>
    refine (sweptState_of_serving hday hs hi (hx i (Slot.live_of_serving hs) hi)).resolve_right fun h => ?_
    rw [(leavesService_iff d x).mpr ⟨hs, h⟩] at hstay
    cases hstay

theorem daySweep_slot (d : Half) (s : State) (n : SliceNo) (k : SlotNo) :
    (daySweep d s).slot n k = if (s.binding n).isSome then sweepSlot d (s.slot n k) else s.slot n k := by
  simp [daySweep, State.slot]

/-- The sweep moves the day, the slots and the cache only. -/
theorem daySweep_frame (d : Half) (s : State) : ∃ v, daySweep d s = { s with
    currentDay := d, slices := v
    cache := s.cache.filter fun e => !s.boundSlot e.ref.slice e.ref.slot (leavesService d) } := by
  unfold daySweep
  exact ⟨_, rfl⟩

theorem daySweep_slotsStep {d : Half} {s : State} (ho : StoreOpen s)
    (hd : s.currentDay.toNat ≤ d.toNat) : SlotsStep s (daySweep d s) := by
  have hsweep := daySweep_slot d s
  obtain ⟨v, hv⟩ := daySweep_frame d s
  rw [hv] at hsweep ⊢
  exact
    { toLatched := .of_moves rfl (.inl rfl)
      day := hd
      codes := fun _ => rfl
      cache := List.filter_sublist.subperm
      fifo := .refl _
      no_load := ho.no_load
      not_loading := ho.not_loading
      settled := fun hs n k => by
        obtain ⟨hempty, hfree, hlive⟩ := hs.settled n k
        have hslot := hsweep n k
        split_ifs at hslot with hb
        · refine ⟨fun he => ?_, fun _ hn => ?_, fun i hl hi => ?_⟩
          · rw [hslot] at he ⊢
            exact hempty (sweepSlot_empty.mp he)
          · change s.binding n = none at hn
            rw [hn] at hb
            cases hb
          · rw [hslot] at hl hi ⊢
            rw [sweepSlot_live] at hl
            exact sweptState_of_live hl hi
        · have hnone : s.binding n = none := Option.not_isSome_iff_eq_none.mp hb
          have he := hfree ho.not_zeroized hnone
          refine ⟨fun _ => ?_, fun _ _ => ?_, fun i hl _ => ?_⟩
          · rw [hslot]; exact hempty he
          · rw [hslot]; exact he
          · rw [hslot] at hl
            exact absurd he (Slot.ne_empty_of_live hl)
      epochs := fun hs n k => by
        have hslot := hsweep n k
        split_ifs at hslot with hb
        · by_cases hleave : leavesService d (s.slot n k) = true
          · refine .inr ⟨by rw [hslot]; simp [sweepSlot, hleave], ?_⟩
            rintro x hx ⟨rfl, rfl⟩
            have hkept := (List.mem_filter.mp hx).2
            simp [State.boundSlot, hb, hleave] at hkept
          · refine .inl ⟨by rw [hslot]; simp [sweepSlot, hleave], fun hserv => ?_⟩
            rw [hslot]
            exact sweepSlot_serving hd (hs.live_by_day n k) hserv (Bool.eq_false_iff.mpr hleave)
        · exact .inl ⟨by rw [hslot], fun h => by rw [hslot]; exact h⟩
      works := fun _ _ e w ref he hr => .inl ⟨e, w, he, hr⟩ }

theorem daySweep_step {d : Half} {s : State} (ho : StoreOpen s)
    (hd : s.currentDay.toNat ≤ d.toNat) : KeyStep s (daySweep d s) := by
  refine (daySweep_slotsStep ho hd).step_of_carried fun _ n k g hg => ?_
  rw [daySweep_slot] at hg
  split_ifs at hg
  · rwa [sweepSlot_gen] at hg
  · exact hg

theorem markDirectoryDirty_keyStands (s : State) : KeyStands s (markDirectoryDirty s) :=
  .of_fields rfl rfl rfl rfl rfl

theorem runSetDay_step {s : State} (h : ServiceRequest) (ho : StoreOpen s) :
    KeyStep s (runSetDay h s) := by
  unfold runSetDay
  dsimp only
  split_ifs with hback
  · exact (finish_keyStands ..).step
  · exact (finish_keyStands ..).step
  · exact (finish_keyStands ..).step
  · exact (daySweep_step ho (not_lt.mp hback)).andThen
      ((markDirectoryDirty_keyStands _).trans (finish_keyStands ..))

/-! ### COMMIT -/

theorem startCommit_step {s : State} (h : ServiceRequest) (t : CommitTarget) (ho : StoreOpen s) :
    KeyStep s (startCommit h t s) := by
  unfold startCommit
  dsimp only
  refine ((snapshotState_keysFault h.lane t s).step ho).andThen (.after (raiseReports_keyStands _ _) ?_)
  generalize (snapshotState h.lane t s).1 = u
  refine (popHead_keyStands u).trans ?_
  refine KeyStands.trans (t := { popHead u with nvm := beginErase u.nvm (targetSector t) })
    (.of_fields rfl rfl rfl rfl rfl) (setRecord_keyStands _ ?_)
  rintro r k v c ⟨⟩ ho
  cases ho

theorem commitTarget_step {s : State} (h : ServiceRequest) (t : CommitTarget) (ho : StoreOpen s) :
    KeyStep s (commitTarget h t s) := by
  unfold commitTarget
  split_ifs
  · exact startCommit_step h t ho
  · exact (finish_keyStands ..).step

theorem runCommit_step {s : State} (h : ServiceRequest) (ho : StoreOpen s) :
    KeyStep s (runCommit h s) := by
  unfold runCommit
  dsimp only
  split_ifs
  · exact (finish_keyStands ..).step
  · exact (finish_keyStands ..).step
  · exact commitTarget_step h _ ho
  · split
    · exact (finish_keyStands ..).step
    · exact commitTarget_step h _ ho

/-! ### The completion of a KEY_STAGE (R101) -/

/-- The lowest EMPTY slot is EMPTY. -/
theorem empty_of_lowestEmpty {s : State} {n : SliceNo} {k : SlotNo} (h : s.lowestEmpty n = some k) :
    (s.slot n k).state = .empty := by
  simpa using List.find?_some h

/-- The generations after a fill: the admitted one in the slot filled, and as before in the others. -/
theorem fill_gen {s : State} {n m : SliceNo} {k j : SlotNo} {x : Slot} :
    ((popHead (markSliceDirty n (replaceSlot n k x s))).slot m j).gen? =
      if m = n ∧ j = k then x.gen? else (s.slot m j).gen? := by
  change ((replaceSlot n k x s).slot m j).gen? = _
  rw [replaceSlot_slot]
  split_ifs <;> rfl

/-- An admitted generation filled into an EMPTY slot keeps the generation law (R78). -/
theorem GenerationLaw.fill {s : State} (h : GenerationLaw s) {r : ServiceRequest}
    {rest : List ServiceRequest} {n : SliceNo} {k : SlotNo} {x : Slot} {b : Binding}
    (hf : s.fifo = r :: rest) (hkind : r.kind = .keyStage) (hp : r.phase ≠ .waiting)
    (hb : s.binding n = some b) (hi : b.issuer = srvIssuer r.cell.bytes)
    (hk : (s.slot n k).state = .empty) (hx : x.gen? = some (srvGen r.cell.bytes)) :
    GenerationLaw (popHead (markSliceDirty n (replaceSlot n k x s))) := by
  have hnone : (s.slot n k).gen? = none := by simp [Slot.gen?, hk]
  have hadm : ∀ j g, (s.slot n j).gen? = some g →
      1 ≤ (srvGen r.cell.bytes - g).toNat ∧ (srvGen r.cell.bytes - g).toNat ≤ 127 :=
    fun j g => h.admitted r rest n b j g hf hkind hp hb hi
  have hwait : ∀ q ∈ rest, q.phase = .waiting := fun q hq => h.head_only q (by rw [hf]; exact hq)
  have hpop : (popHead (markSliceDirty n (replaceSlot n k x s))).fifo = rest := by
    change s.fifo.tail = rest
    rw [hf]
    rfl
  have hother : ∀ j, (s.slot n j).gen? ≠ some (srvGen r.cell.bytes) := fun j hj => by
    have h1 := (hadm j _ hj).1
    rw [BitVec.sub_self] at h1
    cases h1
  refine ⟨fun m i j g hgi hgj => ?_, fun m j g hg => ?_, fun q hq => ?_, ?_⟩
  · rw [fill_gen] at hgi hgj
    split_ifs at hgi hgj with ei ej ej
    · rw [ei.2, ej.2]
    · rw [hx] at hgi
      cases hgi
      exact absurd (ei.1 ▸ hgj) (hother j)
    · rw [hx] at hgj
      cases hgj
      exact absurd (ej.1 ▸ hgi) (hother i)
    · exact h.distinct m i j g hgi hgj
  · by_cases hold : ∃ i g', (s.slot m i).gen? = some g'
    · obtain ⟨i, g', hi'⟩ := hold
      obtain ⟨a, o, ha, hall⟩ := h.span m i g' hi'
      refine ⟨a, o, ?_, fun c y hy => ?_⟩
      · rw [fill_gen, if_neg, ha]
        rintro ⟨rfl, rfl⟩
        rw [hnone] at ha
        cases ha
      · rw [fill_gen] at hy
        split_ifs at hy with ec
        · rw [hx] at hy
          cases hy
          exact (hadm a o (ec.1 ▸ ha)).2
        · exact hall c y hy
    · refine ⟨j, g, hg, fun c y hy => ?_⟩
      rw [fill_gen] at hg hy
      split_ifs at hg hy
      · rw [hg] at hy
        cases hy
        rw [BitVec.sub_self]
        decide
      all_goals exact absurd ⟨_, _, ‹(s.slot m _).gen? = some _›⟩ hold
  · rw [hpop] at hq
    exact hwait q (List.mem_of_mem_tail hq)
  · intro h' rest' m c j g hf' _ hph
    rw [hpop] at hf'
    exact absurd (hwait h' (hf' ▸ List.mem_cons_self)) hph

theorem filledSlot_becomes {s : State} {n : SliceNo} {b : Binding} (c key : Bytes)
    (hb : s.binding n = some b) : SlotBecomes s n (filledSlot c s.currentDay key) := by
  have hlive := dayState_live s.currentDay (stageInfo c) (filledSlot c s.currentDay key) rfl
  refine ⟨fun he => absurd he (Slot.ne_empty_of_live hlive), fun hn => ?_, ?_⟩
  · rw [hn] at hb; cases hb
  · rintro i - ⟨⟩
    rfl

theorem filledSlot_gen (c key : Bytes) (d : Half) : (filledSlot c d key).gen? = some (srvGen c) := by
  have hne := Slot.ne_empty_of_live (dayState_live d (stageInfo c) (filledSlot c d key) rfl)
  rw [Slot.gen?, if_neg hne]
  rfl

/-- A step of slots that ends with the head leaving. -/
theorem SlotsStep.popHead {s t : State} (h : SlotsStep s t) : SlotsStep s (popHead t) :=
  { h with
    fifo := (List.tail_sublist _).trans h.fifo
    settled := fun hs n k => by
      obtain ⟨h1, h2, h3⟩ := h.settled hs n k
      exact ⟨h1, h2, h3⟩ }

theorem completeStage_step {s : State} {h : ServiceRequest} {rest : List ServiceRequest} (key : Bytes)
    (good : Bool) (ho : StoreOpen s) (hf : s.fifo = h :: rest) (hkind : h.kind = .keyStage)
    (hp : h.phase = .inEngine) : KeyStep s (completeStage h key good s) := by
  unfold completeStage
  split
  · exact (finish_keyStands ..).step
  · next n hn =>
    obtain ⟨b, hb, hi⟩ := binding_of_sliceOf hn
    split
    · exact (finish_keyStands ..).step
    · next k hk =>
      split_ifs
      · refine (SlotsStep.step (replaceMarked_slotsStep ho fun _ =>
          filledSlot_becomes h.cell.bytes key hb).popHead fun _ _ hg => ?_).andThen
            (makeEntry_keyStands _ _)
        exact hg.fill hf hkind (by rw [hp]; decide) hb hi (empty_of_lowestEmpty hk)
          (filledSlot_gen ..)
      · exact (finish_keyStands ..).step

theorem completeReplace_keyStands (h : ServiceRequest) (key : Bytes) (good : Bool) (s : State) :
    KeyStands s (completeReplace h key good s) := by
  unfold completeReplace
  split_ifs
  · exact .after (finish_keyStands ..) (.of_fields rfl rfl rfl rfl rfl)
  · exact finish_keyStands ..

theorem completeUnwrap_step (w : ServiceWork) {s : State} (ho : StoreOpen s) :
    KeyStep s (completeUnwrap w s) := by
  unfold completeUnwrap
  split
  · exact (KeyStands.refl s).step
  · next h rest hf =>
    split_ifs with hp
    · split
      · next hk => exact completeStage_step _ _ ho hf hk hp
      · exact (completeReplace_keyStands ..).step
      all_goals exact (KeyStands.refl s).step
    · exact (KeyStands.refl s).step

theorem execServiceUnwrapComplete_step (e : EngineNo) {s : State} (hc : ControlLaw s) :
    Answers (KeyStep s) (execServiceUnwrapComplete e s) := by
  unfold execServiceUnwrapComplete
  split
  · exact .next (KeyStands.refl s).step
  · next w hw =>
    have he : s.engine e = some (.service w) := by
      unfold State.serviceAt at hw
      split at hw
      · next he => rw [he, Option.some.inj hw]
      all_goals cases hw
    have ho := StoreOpen.of_engine he hc
    refine .next (((runTo_keyStands s w.workEnd).trans (freeEngine_keyStands e _)).thenStep
      (completeUnwrap_step w ⟨ho.no_load, ho.not_loading, ho.not_zeroized⟩))

/-- A service command is a step when the run of its arrived head is. -/
theorem onHead_step (kind : ServiceKind) {f : ServiceRequest → State → State} {s : State}
    (hc : ControlLaw s)
    (hrun : ∀ h rest, StoreOpen s → s.fifo = h :: rest → h.kind = kind → h.phase = .waiting →
      KeyStep s (f h s)) : Answers (KeyStep s) (.next (onHead kind f s)) := by
  refine .next ?_
  rcases onHead_cases kind f s with e | ⟨h, rest, ha, hf, hk, hp, e⟩ <;> rw [e]
  · exact (KeyStands.refl s).step
  · exact hrun h rest (.of_active ha hc) hf hk hp

end Sys2Proof.Machine
end

section
namespace Sys2Proof.Machine

/-! ## The load (R136 to R141) -/

/-- The step reads or checks slice `n`. -/
def Reads (n : SliceNo) (step : LoadStep) : Prop := step = .sliceRead n ∨ ∃ k, step = .kcvCheck n k

/-- The operation in flight, if any, does not program the start counter. -/
def NoCount (s : State) : Prop := ∀ r k v c, s.nvmOp = some r → r.op ≠ .startCount k v c

theorem SlotLaw.noCount {s : State} {x : LoadState} (h : SlotLaw s) (hx : s.load = some x)
    (hne : x.step ≠ .counterProgram) : NoCount s :=
  fun r k v c hr ho => hne (h.count_in_step r x k v c hr ho hx)

/-- A load at a step that reads no slice yet, with every slot EMPTY. -/
theorem LoadLaw.of_early {s : State} {x : LoadState} (hx : s.load = some x)
    (hcount : x.step = .counterProgram ∨ NoCount s) (hempty : ∀ n k, (s.slot n k).state = .empty)
    (hstep : x.step = .counterRead ∨ x.step = .counterProgram ∨ x.step = .directoryRead) :
    LoadLaw s where
  count_in_step r y k v c hr ho hy := by
    cases hx.symm.trans hy
    exact hcount.resolve_right fun h => h r k v c hr ho
  early_empty _ _ _ := hempty
  read_bound y n hy h := by
    cases hx.symm.trans hy
    rcases hstep with e | e | e <;> rw [e] at h <;> rcases h with h | ⟨k, h⟩ <;> cases h

/-- A load at a step that reads a bound slice. -/
theorem LoadLaw.of_reads {s : State} {x : LoadState} {n : SliceNo} (hx : s.load = some x)
    (hcount : NoCount s) (hreads : Reads n x.step) (hb : s.binding n ≠ none) : LoadLaw s where
  count_in_step r _ k v c hr ho _ := absurd ho (hcount r k v c hr)
  early_empty y hy h := by
    cases hx.symm.trans hy
    rcases hreads with e | ⟨k, e⟩ <;> rw [e] at h <;> simp at h
  read_bound y m hy h := by
    cases hx.symm.trans hy
    rcases hreads with e | ⟨k, e⟩ <;> rw [e] at h <;> rcases h with h | ⟨j, h⟩ <;> cases h <;> exact hb

theorem loadNext_stands (step : LoadStep) (t : Nat) (s : State) : StoreStands s (loadNext step t s) :=
  .of_fields rfl rfl (.inl rfl) (.refl _)

theorem loadEnds_stands {s : State} (h : s.device = .loading) : StoreStands s (loadEnds s) := by
  refine .of_fields rfl rfl (.inr ⟨?_, ?_, nofun⟩) (.refl _) <;> rw [h] <;> decide

theorem loadNextSlice_stands (last : Option SliceNo) {s : State} (h : s.device = .loading) :
    StoreStands s (loadNextSlice last s) := by
  unfold loadNextSlice
  split
  · exact loadNext_stands _ _ s
  · exact loadEnds_stands h

theorem loadNextKey_stands (n : SliceNo) (last : Option SlotNo) {s : State} (h : s.device = .loading) :
    StoreStands s (loadNextKey n last s) := by
  unfold loadNextKey
  split
  · exact loadNext_stands _ _ s
  · exact loadNextSlice_stands _ h

theorem loadNextSlice_lawful (last : Option SliceNo) {s : State} (h : NoCount s) :
    LoadLaw (loadNextSlice last s) := by
  unfold loadNextSlice
  split
  · next n hn =>
    have hb := List.find?_some hn
    simp only [Bool.and_eq_true] at hb
    refine .of_reads (x := { step := .sliceRead n, stepEnd := after s.gt readTime }) rfl h (.inl rfl) ?_
    exact Option.isSome_iff_ne_none.mp hb.2
  · exact .of_no_load rfl

theorem loadNextKey_lawful {n : SliceNo} (last : Option SlotNo) {s : State} (h : NoCount s)
    (hb : s.binding n ≠ none) : LoadLaw (loadNextKey n last s) := by
  unfold loadNextKey
  split
  · next k _ =>
    exact .of_reads (x := { step := .kcvCheck n k, stepEnd := after s.gt kcvTime }) rfl h
      (.inr ⟨k, rfl⟩) hb
  · exact loadNextSlice_lawful _ h

theorem Reads.ne_counterProgram {n : SliceNo} {step : LoadStep} (h : Reads n step) :
    step ≠ .counterProgram := by
  rcases h with h | ⟨k, h⟩ <;> rw [h] <;> nofun

/-- A slice that has been read or checked, and the load goes on in it. -/
theorem SlotLaw.nextKey {s : State} {x : LoadState} {n : SliceNo} (h : SlotLaw s)
    (hx : s.load = some x) (hn : Reads n x.step) (last : Option SlotNo) :
    LoadLaw (loadNextKey n last s) :=
  loadNextKey_lawful last (h.noCount hx hn.ne_counterProgram) (h.read_bound x n hx hn)

/-- A step of the load that is in progress ends. -/
theorem load_of_loadAt {s t : State} {step : LoadStep} (h : s.loadAt step = some t) :
    ∃ x, s.load = some x ∧ x.step = step ∧ t = s.runTo x.stepEnd := by
  unfold State.loadAt at h
  split at h
  · next x hx =>
    split_ifs at h with hstep
    exact ⟨x, hx, hstep, (Option.some.inj h).symm⟩
  · cases h

/-! ### Option record and start counter -/

theorem applyOption_keyStands (o : OptionRecord) (s : State) : KeyStands s (applyOption o s) :=
  .of_fields rfl rfl rfl rfl rfl

theorem zeroizeFromLoad_keyStands {s : State} (h : s.device = .loading) :
    KeyStands s (zeroizeFromLoad s) := by
  refine (dropLoad_keyStands s).trans (.trans (moveDevice_keyStands (d := .zeroizing) ?_) ?_)
  · refine .inr ⟨?_, ?_, nofun⟩ <;> rw [h] <;> decide
  · refine KeyStands.trans (t := { s with load := none, device := .zeroizing, nvm := beginErase s.nvm 2 })
      (.of_fields rfl rfl rfl rfl rfl) (setRecord_keyStands _ ?_)
    rintro r k v c ⟨⟩ ho
    cases ho

theorem execOptionRecordReadEnd_step {s : State} (hc : ControlLaw s) :
    Answers (KeyStep s) (execOptionRecordReadEnd s) := by
  unfold execOptionRecordReadEnd
  split
  · exact .next (KeyStands.refl s).step
  · next t ht =>
    obtain ⟨x, hx, hstep, rfl⟩ := load_of_loadAt ht
    have hu := (runTo_keyStands s x.stepEnd).trans
      (applyOption_keyStands (takeOption (readSector s.nvm 0)) _)
    refine .next ?_
    split_ifs
    · exact (hu.trans (zeroizeFromLoad_keyStands (hc.load_in_loading (by rw [hx]; rfl)))).step
    · refine hu.step.andLoad (loadNext_stands ..) fun hs => ?_
      refine .of_early (x := { step := .counterRead, stepEnd := after (s.runTo x.stepEnd).gt readTime }) rfl
        (.inr (hs.noCount hx (by rw [hstep]; nofun))) (hs.early_empty x hx (.inl hstep)) (.inl rfl)

theorem execStartCounterReadEnd_step (s : State) : Answers (KeyStep s) (execStartCounterReadEnd s) := by
  unfold execStartCounterReadEnd loadNext
  split
  · exact .next (KeyStands.refl s).step
  · next t ht =>
    obtain ⟨x, hx, hstep, rfl⟩ := load_of_loadAt ht
    have hrun := (runTo_keyStands s x.stepEnd).step
    dsimp only
    split_ifs
    · refine .next (hrun.andLoad (.of_fields rfl rfl (.inl rfl) (.refl _)) fun hs => ?_)
      refine .of_early (x := { step := .counterProgram, stepEnd := after (s.runTo x.stepEnd).gt programTime })
        rfl (.inl rfl) (hs.early_empty x hx (.inr (.inl hstep))) (.inr (.inl rfl))
    · refine .next (hrun.andLoad (.of_fields rfl rfl (.inl rfl) (.refl _)) fun hs => ?_)
      refine .of_early (x := { step := .directoryRead, stepEnd := after (s.runTo x.stepEnd).gt readTime })
        rfl (.inr (hs.noCount hx (by rw [hstep]; nofun))) (hs.early_empty x hx (.inr (.inl hstep)))
        (.inr (.inr rfl))

/-- The program of START_COUNT has ended in `t`: the load goes on to step 4, or runs no more. -/
theorem afterStartCount_step {s t : State} {r : NvmRecord} {k : Nat} {v : Word} {c : Nat}
    (hr : s.nvmOp = some r) (ho : r.op = .startCount k v c) (h : KeyStands s t) (hcount : NoCount t) :
    KeyStep s (afterStartCount t) := by
  unfold afterStartCount
  split_ifs with hl
  · obtain ⟨x, hx⟩ := Option.isSome_iff_exists.mp hl
    refine (h.toStoreStands.trans (loadNext_stands .directoryRead readTime t)).step fun hs => ?_
    have hstep := hs.count_in_step r x k v c hr ho (h.load x hx)
    refine .of_early (x := { step := .directoryRead, stepEnd := after t.gt readTime }) rfl (.inr hcount)
      (fun n j => ?_) (.inr (.inr rfl))
    exact (h.slots n j).state.trans (hs.early_empty x (h.load x hx) (.inr (.inr (.inl hstep))) n j)
  · exact h.step

theorem execStartCountProgramEnd_step (x : NvmEnd) (s : State) :
    Answers (KeyStep s) (execStartCountProgramEnd x s) := by
  unfold execStartCountProgramEnd
  split
  · next k v count gt e hr =>
    have hnone : ∀ u : State, u.nvmOp = none → NoCount u := fun u hu r _ _ _ h => by rw [hu] at h; cases h
    cases x with
    | success =>
      refine .next (afterStartCount_step hr rfl ?_ (hnone _ rfl))
      exact (setRecord_keyStands s (o := none) nofun).trans (.of_fields rfl rfl rfl rfl rfl)
    | failure =>
      refine .next (afterStartCount_step hr rfl (.after (raiseReport_keyStands _ _) ?_) (hnone _ ?_))
      · exact (setRecord_keyStands s (o := none) nofun).trans (.of_fields rfl rfl rfl rfl rfl)
      · rw [raiseReport_frame]
  · exact .next (KeyStands.refl s).step

/-! ### The directory image -/

/-- The entry of a slice in a valid image is a place in use with its number. -/
theorem imageBindings_get (b : Bytes) (n : SliceNo) :
    (imageBindings b)[n] = ((placesInUse b).find? fun e => e.2 == n.val).map fun e =>
      { issuer := e.1, locked := false, dirty := false } := by
  simp [imageBindings]

/-- A valid image gives a lawful directory (R139). -/
theorem DirectoryLaw.of_image {s : State} {b : Bytes} (hv : directoryValid b = true)
    (hs : s.directory = imageBindings b) : DirectoryLaw s := by
  simp only [directoryValid, Bool.and_eq_true, decide_eq_true_eq] at hv
  obtain ⟨⟨⟨⟨⟨_, hcodes⟩, hslices⟩, _⟩, hzero⟩, _⟩ := hv
  have hget : ∀ n c, s.binding n = some c →
      ∃ e ∈ placesInUse b, e.2 = n.val ∧ e.1 = c.issuer := by
    intro n c hc
    rw [State.binding, hs, imageBindings_get] at hc
    obtain ⟨e, he, rfl⟩ := Option.map_eq_some_iff.mp hc
    exact ⟨e, List.mem_of_find?_eq_some he, by simpa using List.find?_some he, rfl⟩
  refine ⟨fun m n c d hc hd hcd => ?_, fun _ => ?_⟩
  · obtain ⟨e, he, hem, hec⟩ := hget m c hc
    obtain ⟨f, hf, hfn, hfd⟩ := hget n d hd
    have hef := List.inj_on_of_nodup_map hcodes he hf (hec.trans (hcd.trans hfd.symm))
    exact Fin.ext (hem.symm.trans (hef ▸ hfn))
  · have hfind : (placesInUse b).find? (fun e => e.2 == (0 : SliceNo).val) = some (0, 0) := by
      cases hf : (placesInUse b).find? (fun e => e.2 == (0 : SliceNo).val) with
      | none => exact absurd (beq_self_eq_true _) (List.find?_eq_none.mp hf _ hzero)
      | some e =>
        have he := List.find?_some hf
        rw [List.inj_on_of_nodup_map hslices (List.mem_of_find?_eq_some hf) hzero (by simpa using he)]
    refine ⟨{ issuer := 0, locked := false, dirty := false }, ?_, rfl⟩
    rw [State.binding, hs, imageBindings_get, hfind]
    rfl

/-- The base directory binds slice 0 only. -/
theorem DirectoryLaw.of_base {s : State} (h : s.directory = baseDirectory) : DirectoryLaw s :=
  reset_directoryLaw.of_codes (fun n => by rw [State.binding_congr (s := State.reset) h]) nofun

/-- With every slot emptied, the cache empty and the engines free, a lawful directory is all that the laws
ask for. -/
theorem KeepsKeyLaws.of_emptied {s t : State} (hd : DirectoryLaw t) (hl : SlotLaw s → LoadLaw t)
    (hempty : SlotLaw s → ∀ n k, (t.slot n k).state = .empty ∧ (t.slot n k).info = none
      ∧ (t.slot n k).key = none)
    (hc : t.cache.Subperm s.cache) (hc' : SlotLaw s → t.cache = []) (hf : t.fifo = s.fifo)
    (hloading : t.device = .loading → s.device = .loading) (he : ∀ e, t.engine e = none) :
    KeepsKeyLaws s t where
  directory _ := hd
  cache h := h.of_subperm hc
  slots hs := by
    refine .of_settled (hl hs) (fun ht => ⟨hc' hs, ?_⟩) fun n k => ?_
    · rw [hf]
      exact (hs.loading_quiet (hloading ht)).2
    · obtain ⟨h1, h2⟩ := hempty hs n k
      exact ⟨fun _ => h2, fun _ _ => h1, fun _ h => absurd h1 (Slot.ne_empty_of_live h)⟩
  generations hs _ hg := by
    have hnone : ∀ n k, (t.slot n k).gen? = none := fun n k => by
      simp [Slot.gen?, (hempty hs n k).1]
    refine ⟨fun n j k g h => ?_, fun n k g h => ?_, hf ▸ hg.head_only, fun _ _ n b k g _ _ _ _ _ h => ?_⟩
    all_goals
      rw [hnone] at h
      cases h
  serving hs _ _ _ := by
    refine ⟨fun x hx => ?_, fun e w ref h => ?_⟩
    · rw [hc' hs] at hx; cases hx
    · rw [he] at h; cases h

/-- The directory replaced at step 4 of the load, with every slot EMPTY still. -/
theorem replaceDirectory_keeps {s : State} {x : LoadState} (hc : ControlLaw s) (hx : s.load = some x)
    (hstep : x.step = .directoryRead) {t : State} (hd : DirectoryLaw t)
    (hfields : t.slices = s.slices ∧ t.cache = s.cache ∧ t.fifo = s.fifo ∧ t.engines = s.engines)
    (hload : t.load = s.load ∧ t.nvmOp = s.nvmOp) (hdev : t.device = s.device) :
    KeepsKeyLaws s t := by
  have hloading := hc.load_in_loading (by rw [hx]; rfl)
  obtain ⟨h1, h2, h3, h4⟩ := hfields
  have hslot : SlotLaw s → ∀ n k, (t.slot n k).state = .empty := fun hs n k => by
    rw [State.slot_congr h1]
    exact hs.early_empty x hx (.inr (.inr (.inr hstep))) n k
  refine .of_emptied hd (fun hs => ?_) (fun hs n k => ?_) (h2 ▸ .refl _) (fun hs => ?_) h3 ?_ fun e => ?_
  · have hno := hs.noCount hx (by rw [hstep]; nofun)
    refine .of_early (hload.1.trans hx) (.inr fun r k v c hr => hno r k v c (hload.2 ▸ hr))
      (hslot hs) (.inr (.inr hstep))
  · refine ⟨hslot hs n k, ?_⟩
    rw [State.slot_congr h1]
    exact hs.empty_holds_nothing n k (hs.early_empty x hx (.inr (.inr (.inr hstep))) n k)
  · rw [h2]
    exact (hs.loading_quiet hloading).1
  · rw [hdev]
    exact id
  · rw [State.engine_congr h4]
    exact hc.engines_free (.inl hloading) e

theorem execDirectoryImageReadEnd_keepsKeyLaws {s : State} (hc : ControlLaw s) :
    Answers (fun t => Latched s t ∧ KeepsKeyLaws s t) (execDirectoryImageReadEnd s) := by
  unfold execDirectoryImageReadEnd
  split
  · exact .next ⟨.of_moves rfl (.inl rfl), (KeyStands.refl s).step.toKeepsKeyLaws⟩
  · next t ht =>
    obtain ⟨x, hx, hstep, rfl⟩ := load_of_loadAt ht
    have hdev := hc.load_in_loading (by rw [hx]; rfl)
    have hnext : ∀ u : State, u.device = s.device → u.load = s.load → u.latches = s.latches →
        KeepsKeyLaws s u → Latched s (loadNextSlice none u) ∧ KeepsKeyLaws s (loadNextSlice none u) := by
      intro u hd hl hlat hkeep
      have hstands := loadNextSlice_stands none (hd.trans hdev)
      refine ⟨(Latched.of_moves hlat (.inl hd)).trans hstands.toLatched, hkeep.andLoad hstands fun hs => ?_⟩
      exact loadNextSlice_lawful none (hs.noCount (hl.trans hx) (by rw [hstep]; nofun))
    dsimp only
    split_ifs with hv
    · refine .next (hnext _ rfl rfl rfl ?_)
      exact replaceDirectory_keeps hc hx hstep (.of_image hv rfl) ⟨rfl, rfl, rfl, rfl⟩ ⟨rfl, rfl⟩ rfl
    · refine .next (hnext _ rfl rfl rfl ?_)
      exact replaceDirectory_keeps hc hx hstep (.of_base rfl) ⟨rfl, rfl, rfl, rfl⟩ ⟨rfl, rfl⟩ rfl

/-! ### The slice images -/

/-- Slots of a slice that the load reads or checks: they are to be settled, and the generations of the slice
to be distinct and within a span of 127. -/
theorem loadSlots_step {s : State} {x : LoadState} {n : SliceNo} {v : Vector (Vector Slot 8) 32}
    (hc : ControlLaw s) (hx : s.load = some x) (hn : Reads n x.step)
    (hother : ∀ m, m ≠ n → ∀ k, ({ s with slices := v } : State).slot m k = s.slot m k)
    (hset : SlotLaw s → ∀ k, SlotBecomes s n (({ s with slices := v } : State).slot n k))
    (hdistinct : SlotLaw s → GenerationLaw s → ∀ j k g,
      (({ s with slices := v } : State).slot n j).gen? = some g →
      (({ s with slices := v } : State).slot n k).gen? = some g → j = k)
    (hspan : SlotLaw s → GenerationLaw s → ∀ k g,
      (({ s with slices := v } : State).slot n k).gen? = some g →
      ∃ j o, (({ s with slices := v } : State).slot n j).gen? = some o
        ∧ ∀ i h, (({ s with slices := v } : State).slot n i).gen? = some h → (h - o).toNat ≤ 127) :
    KeyStep s { s with slices := v } := by
  have hdev := hc.load_in_loading (by rw [hx]; rfl)
  exact
    { toLatched := .of_moves rfl (.inl rfl)
      directory := fun hd => ⟨hd.codes_distinct, hd.station_bound⟩
      cache := fun hcache => ⟨hcache.size, hcache.distinct⟩
      slots := fun hs => by
        refine .of_settled ?_ hs.loading_quiet fun m k => ?_
        · exact .of_reads hx (hs.noCount hx hn.ne_counterProgram) hn (hs.read_bound x n hx hn)
        · by_cases hm : m = n
          · subst hm
            exact .of_becomes (s := s) (hset hs k) (fun _ => rfl) rfl
          · refine .of_becomes (s := s) ?_ (fun _ => rfl) rfl
            rw [hother m hm]
            exact hs.becomes (by rw [hdev]; decide) m k
      generations := fun hs _ hg => by
        refine ⟨fun m j k g hj hk => ?_, fun m k g hk => ?_, hg.head_only, fun _ _ m b k g hf => ?_⟩
        · by_cases hm : m = n
          · subst hm
            exact hdistinct hs hg j k g hj hk
          · rw [hother m hm] at hj hk
            exact hg.distinct m j k g hj hk
        · by_cases hm : m = n
          · subst hm
            exact hspan hs hg k g hk
          · simp only [hother m hm] at hk ⊢
            exact hg.span m k g hk
        · change s.fifo = _ at hf
          rw [(hs.loading_quiet hdev).2] at hf
          cases hf
      serving := fun hs _ _ _ => by
        refine ⟨fun y hy => ?_, fun e w ref he => ?_⟩
        · change y ∈ s.cache at hy
          rw [(hs.loading_quiet hdev).1] at hy
          cases hy
        · change s.engine e = _ at he
          rw [hc.engines_free (.inl hdev)] at he
          cases he
      day := le_rfl }

end Sys2Proof.Machine
end

section
namespace Sys2Proof.Machine

/-! ### What a slice image gives -/

/-- A slot record gives a settled slot of the day (R140). -/
theorem recordSlot_settled (b : Bytes) (d : Half) (k : SlotNo) (e : Half) :
    ((recordSlot b d k e).state = .empty →
        (recordSlot b d k e).info = none ∧ (recordSlot b d k e).key = none)
      ∧ ∀ i, (recordSlot b d k e).live = true → (recordSlot b d k e).info = some i →
          (recordSlot b d k e).state = dayState d i := by
  unfold recordSlot
  split
  · refine ⟨fun h => ?_, fun i _ hi => ?_⟩
    · exact absurd h (Slot.ne_empty_of_live (dayState_live d _ _ rfl))
    · cases hi
      rfl
  · exact ⟨nofun, fun i h => by cases h⟩
  · exact ⟨nofun, fun i h => by cases h⟩
  · exact ⟨nofun, fun i h => by cases h⟩
  · exact ⟨fun _ => ⟨rfl, rfl⟩, fun i h => by cases h⟩

/-- A slot record of a class with a generation gives a slot that carries it. -/
theorem recordSlot_gen {b : Bytes} {d : Half} {k : SlotNo} {e : Half} {g : Byte}
    (h : (recordSlot b d k e).gen? = some g) :
    recordHasGen b k = true ∧ (recordInfo b k).gen = g := by
  unfold recordHasGen
  unfold recordSlot at h
  split at h
  · next hc =>
    rw [Slot.gen?, if_neg (Slot.ne_empty_of_live (dayState_live d _ _ rfl))] at h
    exact ⟨by rw [hc]; rfl, Option.some.inj h⟩
  · next hc => exact ⟨by rw [hc]; rfl, Option.some.inj h⟩
  · next hc => exact ⟨by rw [hc]; rfl, Option.some.inj h⟩
  · cases h
  · cases h

theorem gen_of_recordHasGen {b : Bytes} (d : Half) {k : SlotNo} (e : Half)
    (h : recordHasGen b k = true) : (recordSlot b d k e).gen? = some (recordInfo b k).gen := by
  simp only [recordHasGen, Bool.and_eq_true, decide_eq_true_eq] at h
  unfold recordSlot
  split
  · rw [Slot.gen?, if_neg (Slot.ne_empty_of_live (dayState_live d _ _ rfl))]
    rfl
  · rfl
  · rfl
  · next hc => omega
  · next h1 h2 h3 _ =>
    change ¬ _ at h1 h2 h3
    omega

/-- The generations of a valid slice image are distinct and within a span of 127 (R140, R78). -/
theorem sliceValid_gens {b : Bytes} {issuer : Half} (h : sliceValid b issuer = true) :
    (∀ j k, recordHasGen b j = true → recordHasGen b k = true →
        (recordInfo b j).gen = (recordInfo b k).gen → j = k)
      ∧ ∀ k, recordHasGen b k = true → ∃ j, recordHasGen b j = true
        ∧ ∀ i, recordHasGen b i = true → ((recordInfo b i).gen - (recordInfo b j).gen).toNat ≤ 127 := by
  simp only [sliceValid, Bool.and_eq_true] at h
  obtain ⟨_, hlaw⟩ := h
  obtain ⟨hnodup, hspan⟩ := (genLaw_iff _).mp hlaw
  have hmem : ∀ k, recordHasGen b k = true → k ∈ allSlots.filter (recordHasGen b) :=
    fun k hk => List.mem_filter.mpr ⟨mem_allSlots k, hk⟩
  refine ⟨fun j k hj hk he => List.inj_on_of_nodup_map hnodup (hmem j hj) (hmem k hk) he, fun k hk => ?_⟩
  rcases hspan with hnil | ⟨o, ho, hall⟩
  · exact absurd (List.map_eq_nil_iff.mp hnil ▸ hmem k hk) List.not_mem_nil
  · obtain ⟨j, hj, rfl⟩ := List.mem_map.mp ho
    exact ⟨j, (List.mem_filter.mp hj).2, fun i hi => hall _ (List.mem_map_of_mem (hmem i hi))⟩

theorem loadSlice_slot (n m : SliceNo) (k : SlotNo) (b : Bytes) (s : State) :
    (loadSlice n b s).slot m k
      = if m = n then recordSlot b s.currentDay k (s.slot n k).epoch else s.slot m k := by
  simp only [loadSlice, State.slot, Fin.getElem_fin, Vector.getElem_set, Fin.val_inj, eq_comm (a := n)]
  split_ifs <;> simp

theorem blankSlice_slot (n m : SliceNo) (k : SlotNo) (s : State) :
    (blankSlice n s).slot m k
      = if m = n then { state := .faulty, info := none, key := none, epoch := (s.slot n k).epoch }
        else s.slot m k := by
  simp only [blankSlice, State.slot, Fin.getElem_fin, Vector.getElem_set, Fin.val_inj,
    eq_comm (a := n)]
  split_ifs <;> simp

/-- A slot of a slice that the load reads has a bound slice beside it. -/
theorem SlotBecomes.of_reads {s : State} {x : LoadState} {n : SliceNo} {y : Slot} (hs : SlotLaw s)
    (hx : s.load = some x) (hn : Reads n x.step)
    (hempty : y.state = .empty → y.info = none ∧ y.key = none)
    (hday : ∀ i, y.live = true → y.info = some i → y.state = dayState s.currentDay i) :
    SlotBecomes s n y := ⟨hempty, fun hb => absurd hb (hs.read_bound x n hx hn), hday⟩

theorem loadSlice_step {s : State} {x : LoadState} {n : SliceNo} {b : Bytes} {issuer : Half}
    (hc : ControlLaw s) (hx : s.load = some x) (hn : Reads n x.step) (hv : sliceValid b issuer = true) :
    KeyStep s (loadSlice n b s) := by
  obtain ⟨hdistinct, hspan⟩ := sliceValid_gens hv
  have hslot : ∀ k, (loadSlice n b s).slot n k = recordSlot b s.currentDay k (s.slot n k).epoch :=
    fun k => (loadSlice_slot n n k b s).trans (if_pos rfl)
  refine loadSlots_step hc hx hn (fun m hm k => (loadSlice_slot n m k b s).trans (if_neg hm))
    (fun hs k => ?_) (fun _ _ j k g hj hk => ?_) (fun _ _ k g hk => ?_)
  · obtain ⟨hempty, hday⟩ := recordSlot_settled b s.currentDay k (s.slot n k).epoch
    rw [← hslot] at hempty hday
    exact .of_reads hs hx hn hempty hday
  · have hj := recordSlot_gen (hslot j ▸ hj)
    have hk := recordSlot_gen (hslot k ▸ hk)
    exact hdistinct j k hj.1 hk.1 (hj.2.trans hk.2.symm)
  · obtain ⟨j, hj, hall⟩ := hspan k (recordSlot_gen (hslot k ▸ hk)).1
    refine ⟨j, (recordInfo b j).gen, ?_, fun i g hi => ?_⟩
    · exact (congrArg Slot.gen? (hslot j)).trans (gen_of_recordHasGen _ _ hj)
    · obtain ⟨hin, rfl⟩ := recordSlot_gen (hslot i ▸ hi)
      exact hall i hin

/-- Slots of one slice that carry no generation keep the laws of LOADING. -/
theorem blankSlice_step {s : State} {x : LoadState} {n : SliceNo} (hc : ControlLaw s)
    (hx : s.load = some x) (hn : Reads n x.step) : KeyStep s (blankSlice n s) := by
  have hslot : ∀ k, (blankSlice n s).slot n k
      = { state := .faulty, info := none, key := none, epoch := (s.slot n k).epoch } :=
    fun k => (blankSlice_slot n n k s).trans (if_pos rfl)
  have hnone : ∀ k, ((blankSlice n s).slot n k).gen? = none := fun k => by rw [hslot]; rfl
  refine loadSlots_step hc hx hn (fun m hm k => (blankSlice_slot n m k s).trans (if_neg hm))
    (fun hs k => ?_) (fun _ _ j k g hj _ => absurd ((hnone j).symm.trans hj) nofun)
    (fun _ _ k g hk => absurd ((hnone k).symm.trans hk) nofun)
  refine .of_reads hs hx hn (fun h => ?_) fun i h _ => ?_
  · exact absurd ((congrArg Slot.state (hslot k)).symm.trans h) nofun
  · exact absurd ((congrArg Slot.live (hslot k)).symm.trans h) nofun

theorem takeSlice_step {s : State} {x : LoadState} {n : SliceNo} (hc : ControlLaw s)
    (hx : s.load = some x) (hstep : x.step = .sliceRead n) : KeyStep s (takeSlice n s) := by
  have hn : Reads n x.step := .inl hstep
  have hdev := hc.load_in_loading (by rw [hx]; rfl)
  unfold takeSlice
  split_ifs with hv
  · exact (loadSlice_step hc hx hn hv).andLoad (loadNextKey_stands n none hdev)
      fun hs => hs.nextKey hx hn none
  · exact (blankSlice_step hc hx hn).andLoad (loadNextSlice_stands _ hdev)
      fun hs => loadNextSlice_lawful _ (hs.noCount hx hn.ne_counterProgram)

theorem execSliceImageReadEnd_step {s : State} (hc : ControlLaw s) :
    Answers (KeyStep s) (execSliceImageReadEnd s) := by
  have hsame : KeyStep s s := (KeyStands.refl s).step
  unfold execSliceImageReadEnd
  split
  · next x hx =>
    split
    · next n hstep =>
      refine .next ((runTo_keyStands s x.stepEnd).thenStep (takeSlice_step (x := x) ?_ hx hstep))
      exact (runTo_beginsNothing s x.stepEnd).keeps hc
    all_goals exact .next hsame
  · exact .next hsame

/-- A KCV check that fails is of a slot that holds a key. -/
theorem key_of_mismatch {x : Slot} (h : kcvMatches x = false) : x.key ≠ none := by
  intro hk
  rw [kcvMatches, hk] at h
  cases h

/-- A key found false loses its value, and its slot keeps its generation. -/
theorem kcvMismatch_step {s : State} {x : LoadState} {n : SliceNo} {k : SlotNo} (hc : ControlLaw s)
    (hx : s.load = some x) (hn : Reads n x.step) (hkey : (s.slot n k).key ≠ none) :
    KeyStep s (kcvMismatch n k s) := by
  have hslot : ∀ m j, (s.setSlot n k { s.slot n k with state := .faulty, key := none }).slot m j
      = if m = n ∧ j = k then { s.slot n k with state := .faulty, key := none } else s.slot m j :=
    fun m j => State.slot_setSlot s n m k j _
  have hgen : SlotLaw s → ∀ m j,
      ((s.setSlot n k { s.slot n k with state := .faulty, key := none }).slot m j).gen?
        = (s.slot m j).gen? := fun hs m j => by
    rw [hslot]
    split_ifs with e
    · have hne : (s.slot n k).state ≠ .empty := fun he => hkey (hs.empty_holds_nothing n k he).2
      rw [e.1, e.2, Slot.gen?, Slot.gen?, if_neg hne, if_neg nofun]
    · rfl
  refine KeyStep.andThen ?_ (raiseReport_keyStands _ _)
  refine loadSlots_step hc hx hn (fun m hm j => (hslot m j).trans (if_neg fun e => hm e.1))
    (fun hs j => ?_) (fun hs hg i j g hi hj => ?_) (fun hs hg j g hj => ?_)
  · have hj := hslot n j
    split_ifs at hj with e
    · refine .of_reads hs hx hn (fun h => ?_) fun i h _ => ?_
      · exact absurd ((congrArg Slot.state hj).symm.trans h) nofun
      · exact absurd ((congrArg Slot.live hj).symm.trans h) nofun
    · refine .of_reads hs hx hn ?_ ?_
      · exact hj ▸ hs.empty_holds_nothing n j
      · exact hj ▸ hs.live_by_day n j
  · exact hg.distinct n i j g ((hgen hs n i).symm.trans hi) ((hgen hs n j).symm.trans hj)
  · obtain ⟨a, o, ha, hall⟩ := hg.span n j g ((hgen hs n j).symm.trans hj)
    exact ⟨a, o, (hgen hs n a).trans ha, fun i h hi => hall i h ((hgen hs n i).symm.trans hi)⟩

theorem checkKcv_step {s : State} {x : LoadState} {n : SliceNo} {k : SlotNo} (hc : ControlLaw s)
    (hx : s.load = some x) (hstep : x.step = .kcvCheck n k) : KeyStep s (checkKcv n k s) := by
  have hn : Reads n x.step := .inr ⟨k, hstep⟩
  have hdev := hc.load_in_loading (by rw [hx]; rfl)
  unfold checkKcv
  split_ifs with hm
  · exact (KeyStands.refl s).step.andLoad (loadNextKey_stands n _ hdev) fun hs => hs.nextKey hx hn _
  · have hmis := kcvMismatch_step hc hx hn (key_of_mismatch (Bool.eq_false_iff.mpr hm))
    have hload : (kcvMismatch n k s).load = some x := by
      rw [kcvMismatch, raiseReport_load]
      exact hx
    have hdev' : (kcvMismatch n k s).device = .loading := by
      rw [kcvMismatch, (raiseReport_of_not_haltable (by simp [State.haltable, hdev])).1]
      exact hdev
    exact hmis.andLoad (loadNextKey_stands n _ hdev') fun hs => hs.nextKey hload hn _

theorem execKcvCheckEnd_step {s : State} (hc : ControlLaw s) :
    Answers (KeyStep s) (execKcvCheckEnd s) := by
  have hsame : KeyStep s s := (KeyStands.refl s).step
  unfold execKcvCheckEnd
  split
  · next x hx =>
    split
    · next n k hstep =>
      refine .next ((runTo_keyStands s x.stepEnd).thenStep (checkKcv_step (x := x) ?_ hx hstep))
      exact (runTo_beginsNothing s x.stepEnd).keeps hc
    all_goals exact .next hsame
  · exact .next hsame

end Sys2Proof.Machine
end

section
namespace Sys2Proof.Machine

/-! ## Zeroize (R142) -/

theorem device_of_zeroizeOp {s : State} {p : NvmRecord × ZeroizeStep × Bool} (hc : ControlLaw s)
    (h : s.zeroizeOp = some p) : s.device = .zeroizing := hc.zeroize_in_zeroizing (by rw [h]; rfl)

theorem beginZeroizeErase_keyStands (sector : Nat) (f : Bool) (gt : Word) (s : State) :
    KeyStands s (beginZeroizeErase sector f gt s) := by
  refine KeyStands.trans (t := { s with nvm := beginErase s.nvm sector }) (.of_fields rfl rfl rfl rfl rfl)
    (setRecord_keyStands _ ?_)
  rintro r k v c ⟨⟩ ho
  cases ho

/-- ZEROIZED is entered from ZEROIZING, with an empty directory (R90, R142). -/
theorem zeroizeEnds_step {s : State} (hd : s.device = .zeroizing) (hl : s.load = none) :
    KeyStep s (zeroizeEnds s) := by
  have hnone : ∀ n, (zeroizeEnds s).binding n = none := fun n => by simp [zeroizeEnds, State.binding]
  exact
    { toLatched := by
        refine .of_moves rfl (.inr ⟨?_, ?_, nofun⟩) <;> rw [hd] <;> decide
      directory := fun _ => by
        refine ⟨fun m n b c hm => ?_, fun hz => absurd rfl hz⟩
        rw [hnone] at hm
        cases hm
      cache := fun hc => ⟨hc.size, hc.distinct⟩
      slots := fun hs => .of_settled (.of_no_load hl) nofun fun n k =>
        ⟨hs.empty_holds_nothing n k, fun hz => absurd rfl hz, hs.live_by_day n k⟩
      generations := fun _ _ hg => by
        refine ⟨hg.distinct, hg.span, hg.head_only, fun _ _ n b k g _ _ _ hb => ?_⟩
        rw [hnone] at hb
        cases hb
      serving := fun _ _ _ hv => ⟨hv.entries, hv.works⟩
      day := le_rfl }

/-- What follows the last step of a zeroize that has gone so far with the key store standing. -/
theorem zeroizeEnds_afterStands {s t : State} (hc : ControlLaw s) (hz : s.device = .zeroizing)
    (h : KeyStands s t) (hd : t.device = s.device) : KeyStep s (zeroizeEnds t) := by
  have ho : StoreOpen s := by
    refine .of_device hc ?_ ?_ <;> rw [hz] <;> decide
  refine h.thenStep (zeroizeEnds_step (hd.trans hz) ?_)
  exact Option.eq_none_iff_forall_ne_some.mpr fun x hx => by
    have := h.load x hx
    rw [ho.no_load] at this
    cases this

theorem afterZeroizeErase_step {s t : State} (sector : Nat) (f : Bool) (gt : Word) (hc : ControlLaw s)
    (hz : s.device = .zeroizing) (h : KeyStands s t) (hd : t.device = s.device) :
    KeyStep s (afterZeroizeErase sector f gt t) := by
  unfold afterZeroizeErase
  split_ifs
  · exact (h.trans (beginZeroizeErase_keyStands ..)).step
  · refine (h.trans (setRecord_keyStands t ?_)).step
    rintro r k v c ⟨⟩ ho
    cases ho
  · exact zeroizeEnds_afterStands hc hz h hd

/-- A report in ZEROIZING leaves the device state. -/
theorem raiseReport_device_of_zeroizing (r : Report) {s : State} (h : s.device = .zeroizing) :
    (raiseReport r s).device = s.device :=
  (raiseReport_of_not_haltable (by simp [State.haltable, h])).1

theorem execZeroizeMarkProgramEnd_step (x : NvmEnd) (s : State) :
    Answers (KeyStep s) (execZeroizeMarkProgramEnd x s) := by
  unfold execZeroizeMarkProgramEnd
  split
  · cases x with
    | success =>
      exact .next (KeyStands.step (.after (beginZeroizeErase_keyStands ..)
        (.of_fields rfl rfl rfl rfl rfl)))
    | failure =>
      exact .next (KeyStands.step (.after (beginZeroizeErase_keyStands ..)
        (.after (raiseReport_keyStands _ _) (.of_fields rfl rfl rfl rfl rfl))))
  · exact .next (KeyStands.refl s).step

theorem execZeroizeSectorEraseEnd_step (x : NvmEnd) {s : State} (hc : ControlLaw s) :
    Answers (KeyStep s) (execZeroizeSectorEraseEnd x s) := by
  unfold execZeroizeSectorEraseEnd
  split
  · next r sec f hz =>
    have hd := device_of_zeroizeOp hc hz
    cases x with
    | success =>
      exact .next (afterZeroizeErase_step _ _ _ hc hd (.of_fields rfl rfl rfl rfl rfl) rfl)
    | failure =>
      refine .next (afterZeroizeErase_step _ _ _ hc hd
        (.after (raiseReport_keyStands _ _) (.of_fields rfl rfl rfl rfl rfl)) ?_)
      exact raiseReport_device_of_zeroizing _ hd
  · exact .next (KeyStands.refl s).step

theorem execZeroizeFinalMarkEnd_step (x : NvmEnd) {s : State} (hc : ControlLaw s) :
    Answers (KeyStep s) (execZeroizeFinalMarkEnd x s) := by
  unfold execZeroizeFinalMarkEnd
  split
  · next r f hz =>
    have hd := device_of_zeroizeOp hc hz
    cases x with
    | success => exact .next (zeroizeEnds_afterStands hc hd (.of_fields rfl rfl rfl rfl rfl) rfl)
    | failure =>
      refine .next (zeroizeEnds_afterStands hc hd
        (.after (raiseReport_keyStands _ _) (.of_fields rfl rfl rfl rfl rfl)) ?_)
      exact raiseReport_device_of_zeroizing _ hd
  · exact .next (KeyStands.refl s).step

/-! ## Tamper and cold reset (R153 to R155, R169) -/

/-- The ZEROIZE response empties the key store (R154, R90). -/
theorem zeroizeResponse_keeps {s : State} (hz : s.device ≠ .zeroized)
    (hf : s.device = .faulted → s.tamperFault = false) :
    Latched s (zeroizeResponse s) ∧ KeepsKeyLaws s (zeroizeResponse s) := by
  have hslot : ∀ n k, (zeroizeResponse s).slot n k = (s.slot n k).cleared := fun n k =>
    (State.slot_congr (by rw [zeroizeResponse_eq]) n k).trans (zeroizeKeys_slot s n k)
  rw [zeroizeResponse_eq] at hslot ⊢
  refine ⟨⟨fun hl => ⟨hl, rfl, rfl⟩, fun hd ht => ?_, fun hd => absurd hd hz⟩, ?_⟩
  · rw [hf hd] at ht
    cases ht
  · refine .of_emptied (.of_base rfl) (fun _ => .of_no_load rfl) (fun _ n k => ?_) List.nil_subperm
      (fun _ => rfl) rfl nofun fun e => by simp [State.engine]
    rw [hslot]
    exact ⟨rfl, rfl, rfl⟩

/-- The FAULT_ONLY response clears key values only (R155, R90). -/
theorem faultOnlyResponse_keyStands {s : State} (hz : s.device ≠ .zeroized) :
    KeyStands s (faultOnlyResponse s) := by
  have hslot : ∀ n k, (faultOnlyResponse s).slot n k = { s.slot n k with key := none } := fun n k =>
    (State.slot_congr (by rw [faultOnlyResponse_eq]) n k).trans (clearKeyValues_slot s n k)
  rw [faultOnlyResponse_eq] at hslot ⊢
  exact
    { lock := fun hl => ⟨hl, rfl, rfl⟩
      fault := fun _ _ => ⟨rfl, rfl⟩
      zeroized := fun hd => absurd hd hz
      day := rfl
      codes := fun _ => rfl
      slots := fun n k => by rw [hslot]; exact ⟨rfl, rfl, rfl, fun _ => rfl⟩
      cache := List.nil_subperm
      fifo := .refl _
      works := fun e w ref he => by simp [State.engine] at he
      loading := nofun
      load := nofun
      count := fun _ _ _ _ hr _ => hr }

theorem tamperResponse_keeps {s : State} (hz : s.device ≠ .zeroized)
    (hf : s.device = .faulted → s.tamperFault = false) :
    Latched s (tamperResponse s) ∧ KeepsKeyLaws s (tamperResponse s) := by
  unfold tamperResponse
  split
  · exact zeroizeResponse_keeps hz hf
  · have h := faultOnlyResponse_keyStands hz
    exact ⟨h.toLatched, h.step.toKeepsKeyLaws⟩

theorem tamperAssertion_keeps (s : State) :
    Latched s (tamperAssertion s) ∧ KeepsKeyLaws s (tamperAssertion s) := by
  have hrec : KeyStands s (recordReport tamperReport s) := .of_fields rfl rfl rfl rfl rfl
  have hanswer : s.device ≠ .zeroized → (s.device = .faulted → s.tamperFault = false) →
      Latched s (tamperResponse (recordReport tamperReport s))
        ∧ KeepsKeyLaws s (tamperResponse (recordReport tamperReport s)) := fun hz hf => by
    obtain ⟨h1, h2⟩ := tamperResponse_keeps (s := recordReport tamperReport s) hz hf
    exact ⟨hrec.toLatched.trans h1, hrec.thenLaws h2⟩
  unfold tamperAssertion
  simp only [raiseReport_tamper]
  split
  · exact ⟨(KeyStands.refl s).toLatched, (KeyStands.refl s).step.toKeepsKeyLaws⟩
  · exact ⟨hrec.toLatched, hrec.step.toKeepsKeyLaws⟩
  · next hd =>
    split_ifs with hf
    · exact ⟨hrec.toLatched, hrec.step.toKeepsKeyLaws⟩
    · exact hanswer (by rw [hd]; nofun) fun _ => Bool.eq_false_iff.mpr hf
  all_goals
    next hd => exact hanswer (by rw [hd]; nofun) fun h => by rw [hd] at h; cases h

theorem reset_cacheLaw : CacheLaw State.reset := ⟨Nat.zero_le _, List.nodup_nil⟩

theorem reset_noWrapAhead : NoWrapAhead State.reset := fun e w ref he => by
  rw [reset_engine] at he
  cases he

/-- After a cold reset the laws hold, whatever held before. -/
theorem coldReset_keeps (s t : State) (h : KeepsKeyLaws State.reset t) : KeepsKeyLaws s t where
  directory _ := h.directory reset_directoryLaw
  cache _ := h.cache reset_cacheLaw
  slots _ := h.slots reset_slotLaw
  generations _ _ _ := h.generations reset_slotLaw reset_directoryLaw reset_generationLaw
  serving _ _ _ _ := h.serving reset_slotLaw reset_directoryLaw reset_noWrapAhead reset_servingLaw

theorem execColdReset_keepsKeyLaws (s : State) : Answers (KeepsKeyLaws s) (execColdReset s) := by
  have hbase : KeyStands State.reset (coldResetState s) := .of_fields rfl rfl rfl rfl rfl
  refine .next (coldReset_keeps s _ ?_)
  split_ifs
  · exact hbase.thenLaws (tamperAssertion_keeps _).2
  · exact hbase.step.toKeepsKeyLaws

theorem execTamperAssert_keepsKeyLaws (s : State) :
    Answers (fun t => Latched s t ∧ KeepsKeyLaws s t) (execTamperAssert s) := by
  refine .next ?_
  split_ifs
  · exact ⟨(KeyStands.refl s).toLatched, (KeyStands.refl s).step.toKeepsKeyLaws⟩
  · have hpin : KeyStands s { s with tamperPin := true } := .of_fields rfl rfl rfl rfl rfl
    obtain ⟨h1, h2⟩ := tamperAssertion_keeps { s with tamperPin := true }
    exact ⟨hpin.toLatched.trans h1, hpin.thenLaws h2⟩

/-! ## Every command -/

/-- What the command `c` keeps from `s` to `t`, each part for the commands of which it is claimed. -/
structure CommandKeeps (c : Instr) (s t : State) : Prop where
  latched : c ≠ .coldReset → Latched s t
  day : c ≠ .coldReset → c ≠ .tamperAssert → c ≠ .directoryImageReadEnd →
    s.currentDay.toNat ≤ t.currentDay.toNat
  laws : (LaneLaw s → KeepsKeyLaws s t) ∧ (DirectoryLaw s → DirectoryLaw t) ∧ (CacheLaw s → CacheLaw t)

theorem KeyStep.keeps {s t : State} (c : Instr) (h : KeyStep s t) : CommandKeeps c s t :=
  ⟨fun _ => h.toLatched, fun _ _ _ => h.day, fun _ => h.toKeepsKeyLaws, h.directory, h.cache⟩

theorem KeyStands.keeps {s t : State} (c : Instr) (h : KeyStands s t) : CommandKeeps c s t :=
  h.step.keeps c

/-- A service request of a RUNNING lane joins the FIFO, outside LOADING, to wait. -/
theorem Enqueues.keeps {s t : State} (c : Instr) (h : Enqueues s t) : CommandKeeps c s t := by
  obtain ⟨q, u, hrun, hwait, hu, hdev, rfl⟩ := h
  have hd : DirectoryLaw s → DirectoryLaw { u with fifo := u.fifo ++ [q] } := fun h =>
    ⟨(hu.step.directory h).codes_distinct, (hu.step.directory h).station_bound⟩
  have hc : CacheLaw s → CacheLaw { u with fifo := u.fifo ++ [q] } := fun h =>
    ⟨(hu.step.cache h).size, (hu.step.cache h).distinct⟩
  refine ⟨fun _ => ⟨hu.lock, hu.fault, hu.zeroized⟩, fun _ _ _ => hu.day ▸ le_rfl, fun hlane => ?_, hd, hc⟩
  refine ⟨hd, hc, fun hs => ?_, fun _ _ hg => ?_, fun _ _ _ hv => ?_⟩
  · have ht := hu.step.slots hs
    refine ⟨ht.count_in_step, ht.early_empty, ht.read_bound, fun hl => ?_, ht.empty_holds_nothing,
      ht.free_empty, ht.live_by_day⟩
    have hdis := hlane.stopped_disabled (.inr (hdev.symm.trans hl)) q.lane
    rw [hrun] at hdis
    cases hdis
  · have ht := hu.generationLaw hg
    refine ⟨ht.distinct, ht.span, fun r hr => ?_, fun h rest n b k g hf hk hp => ?_⟩
    · rcases List.mem_append.mp (List.mem_of_mem_tail hr) with hr' | hr'
      · cases hfifo : u.fifo with
        | nil => rw [hfifo] at hr'; cases hr'
        | cons a l =>
          simp only [hfifo, List.cons_append, List.tail_cons, List.mem_append, List.mem_singleton] at hr
          rcases hr with hr | rfl
          · exact ht.head_only r (by rw [hfifo]; exact hr)
          · exact hwait
      · exact List.mem_singleton.mp hr' ▸ hwait
    · cases hfifo : u.fifo with
      | nil =>
        simp only [hfifo, List.nil_append] at hf
        obtain ⟨rfl, _⟩ := List.cons.inj hf
        exact absurd hwait hp
      | cons a l =>
        simp only [hfifo, List.cons_append] at hf
        obtain ⟨rfl, _⟩ := List.cons.inj hf
        exact ht.admitted a l n b k g hfifo hk hp
  · exact ⟨(hu.servingLaw hv).entries, (hu.servingLaw hv).works⟩

theorem Answers.stepKeeps {s : State} {o : Host.Outcome State Fault Refusal} (c : Instr)
    (h : Answers (KeyStep s) o) : Answers (CommandKeeps c s) o := h.mono fun _ g => g.keeps c

theorem Answers.standsKeeps {s : State} {o : Host.Outcome State Fault Refusal} (c : Instr)
    (h : Answers (KeyStands s) o) : Answers (CommandKeeps c s) o := h.mono fun _ g => g.keeps c

theorem exec_commandKeeps (c : Instr) {s : State} (hc : ControlLaw s) :
    Answers (CommandKeeps c s) (exec c s) := by
  cases c with
  | coldReset =>
    exact (execColdReset_keepsKeyLaws s).mono fun _ h =>
      ⟨fun hne => absurd rfl hne, fun hne => absurd rfl hne, fun _ => h, h.directory, h.cache⟩
  | tamperAssert =>
    exact (execTamperAssert_keepsKeyLaws s).mono fun _ h =>
      ⟨fun _ => h.1, fun _ hne => absurd rfl hne, fun _ => h.2, h.2.directory, h.2.cache⟩
  | directoryImageReadEnd =>
    exact (execDirectoryImageReadEnd_keepsKeyLaws hc).mono fun _ h =>
      ⟨fun _ => h.1, fun _ _ hne => absurd rfl hne, fun _ => h.2, h.2.directory, h.2.cache⟩
  | cellReadEnd r =>
    exact (execCellReadEnd_cases r s).mono fun _ h =>
      h.elim (fun h => h.keeps _) (fun h => h.keeps _)
  | tamperRelease | noticePendingWrite v | errorFlagsWrite v =>
    exact .next (KeyStands.keeps _ (.of_fields rfl rfl rfl rfl rfl))
  | start w | stop w | softReset w | lock w => exact .next ((controlWrite_keyStands w s).keeps _)
  | stationBaseWrite half v => exact .next ((stationBaseWrite_keyStands half v s).keeps _)
  | post v => exact .next ((postWrite_keyStands v s).keeps _)
  | ignoredRegisterWrite o w v => exact .next ((registerWrite_keyStands o w v s).keeps _)
  | stationRecordReadIssue => exact (execStationRecordReadIssue_keyStands s).standsKeeps _
  | stationRecordReadEnd r => exact (execStationRecordReadEnd_keyStands r hc).standsKeeps _
  | cellReadIssue => exact (execCellReadIssue_keyStands s).standsKeeps _
  | deadlineExpiry l take => exact (execDeadlineExpiry_keyStands l take s).standsKeeps _
  | dispatch => exact (execDispatch_step hc).stepKeeps _
  | deriveComplete e => exact (execDeriveComplete_step e hc).stepKeeps _
  | verifyComplete e => exact (execVerifyComplete_keyStands e s).standsKeeps _
  | writeComplete e => exact (execWriteComplete_keyStands e s).standsKeeps _
  | evidenceComplete e => exact (execEvidenceComplete_keyStands e s).standsKeeps _
  | serviceUnwrapComplete e => exact (execServiceUnwrapComplete_step e hc).stepKeeps _
  | issuerAdd => exact (onHead_step _ hc fun _ _ ho hf _ hp => runIssuerAdd_step ho hf hp).stepKeeps _
  | issuerRemove =>
    exact (onHead_step _ hc fun _ _ ho hf _ hp => runIssuerRemove_step ho hf hp).stepKeeps _
  | issuerLock => exact (onHead_step _ hc fun h _ _ _ _ _ => (runIssuerLock_keyStands h s).step).stepKeeps _
  | keyStage => exact (onHead_step _ hc fun _ _ ho hf _ _ => runKeyStage_step ho hf).stepKeeps _
  | keyRevoke => exact (onHead_step _ hc fun h _ ho _ _ _ => runKeyRevoke_step h ho).stepKeeps _
  | keyErase => exact (onHead_step _ hc fun h _ ho _ _ _ => runKeyErase_step h ho).stepKeeps _
  | setDay => exact (onHead_step _ hc fun h _ ho _ _ _ => runSetDay_step h ho).stepKeeps _
  | transportReplace =>
    exact (onHead_step _ hc fun _ _ ho hf hk _ => runTransportReplace_step ho hf hk).stepKeeps _
  | commit => exact (onHead_step _ hc fun h _ ho _ _ _ => runCommit_step h ho).stepKeeps _
  | logRead => exact (onHead_step _ hc fun h _ _ _ _ _ => (runLogRead_keyStands h s).step).stepKeeps _
  | laneStop => exact (onHead_step _ hc fun h _ _ _ _ _ => (runLaneStop_keyStands h s).step).stepKeeps _
  | laneResume =>
    exact (onHead_step _ hc fun h _ _ _ _ _ => (runLaneResume_keyStands h s).step).stepKeeps _
  | writeChannelIssue => exact (execWriteChannelIssue_keyStands s).standsKeeps _
  | returnFirstWriteEnd r => exact (execReturnFirstWriteEnd_keyStands r s).standsKeeps _
  | returnOwnWriteEnd r => exact (execReturnOwnWriteEnd_keyStands r s).standsKeeps _
  | noticeWriteEnd r => exact (execNoticeWriteEnd_keyStands r s).standsKeeps _
  | errorNoticeWriteEnd r => exact (execErrorNoticeWriteEnd_keyStands r s).standsKeeps _
  | commitEraseEnd r => exact (execCommitEraseEnd_keyStands r s).standsKeeps _
  | commitWordProgramEnd r => exact (execCommitWordProgramEnd_keyStands r s).standsKeeps _
  | spoilProgramEnd r => exact (execSpoilProgramEnd_keyStands r s).standsKeeps _
  | optionRecordReadEnd => exact (execOptionRecordReadEnd_step hc).stepKeeps _
  | startCounterReadEnd => exact (execStartCounterReadEnd_step s).stepKeeps _
  | startCountProgramEnd r => exact (execStartCountProgramEnd_step r s).stepKeeps _
  | sliceImageReadEnd => exact (execSliceImageReadEnd_step hc).stepKeeps _
  | kcvCheckEnd => exact (execKcvCheckEnd_step hc).stepKeeps _
  | zeroizeMarkProgramEnd r => exact (execZeroizeMarkProgramEnd_step r s).stepKeeps _
  | zeroizeSectorEraseEnd r => exact (execZeroizeSectorEraseEnd_step r hc).stepKeeps _
  | zeroizeFinalMarkEnd r => exact (execZeroizeFinalMarkEnd_step r hc).stepKeeps _
  | keyRamDamage n k d =>
    refine .next (KeyStands.keeps _ (setSlot_keyStands ⟨rfl, rfl, rfl, fun h => ?_⟩))
    exact (congrArg (Option.map fun c : KeyCell => { c with ecc := damagedEcc d }) h)

/-- Settles O59: in most commands the latches' fields stand and the device moves among the states that may be
left; the day is taken by the SET_DAY sweep upward only. -/
theorem onlyColdResetUndoes : Obligations.OnlyColdResetUndoes := by
  unfold Obligations.OnlyColdResetUndoes
  intro c s t hc hexec hne
  obtain ⟨hlatched, hday, _⟩ := exec_commandKeeps c hc t hexec
  obtain ⟨hlock, hfault, hzero⟩ := hlatched hne
  exact ⟨hlock, fun h => hfault h.1 h.2, hzero, fun h => hday hne h.1 h.2⟩

/-- Settles O57: a tick and most commands let the key store stand; of the others each slot is settled anew,
its epoch raised with its entries purged, and a generation enters its slice only as R79 admits it. -/
theorem keyStoreLawsKept : Obligations.KeyStoreLawsKept := by
  unfold Obligations.KeyStoreLawsKept
  intro s t hc hstep
  have hkeeps : (LaneLaw s → KeepsKeyLaws s t) ∧ (DirectoryLaw s → DirectoryLaw t)
      ∧ (CacheLaw s → CacheLaw t) := by
    unfold step at hstep
    split at hstep
    · cases hstep
      have htick : KeyStep s s.tick := (KeyStands.of_fields (s := s) (t := s.tick) rfl rfl rfl rfl rfl).step
      exact ⟨fun _ => htick.toKeepsKeyLaws, htick.directory, htick.cache⟩
    · next c rest _ =>
      have hq : KeyStands s { s with pending := rest } := .of_fields rfl rfl rfl rfl rfl
      obtain ⟨hlaws, hd, hcache⟩ := (exec_commandKeeps c (hc.of_pending rest) t hstep).laws
      exact ⟨fun hl => hq.thenLaws
        (hlaws ⟨hl.stopped_disabled, hl.stopping_none_running, hl.waiting_running⟩),
        hd ∘ hq.step.directory, hcache ∘ hq.step.cache⟩
  obtain ⟨hlaws, hd, hcache⟩ := hkeeps
  exact ⟨hd, hcache, fun hl hs => ⟨(hlaws hl).slots hs, (hlaws hl).generations hs, (hlaws hl).serving hs⟩⟩

end Sys2Proof.Machine
end

section
namespace Sys2Proof.Machine

/-! ## Result areas of several fields (R96, R171) -/

theorem length_leading {a : Bytes} (h : a.length ≤ 24) : (leading a).length = 24 := by
  rw [leading, List.length_append, List.length_replicate]
  omega

theorem getElem_leading {a : Bytes} {i : Nat} (h : i < (leading a).length) :
    (leading a)[i] = if hi : i < a.length then a[i] else 0xFF := by
  simp [leading, List.getElem_append]

/-- A field put behind the bytes that lead. -/
theorem putBytes_leading_append {a v : Bytes} (h : a.length + v.length ≤ 24) :
    putBytes (leading a) a.length v = leading (a ++ v) := by
  have hav : (a ++ v).length ≤ 24 := by rwa [List.length_append]
  have hlen := length_leading (Nat.le_of_add_right_le h)
  refine List.ext_getElem (by simp [putBytes, hlen, length_leading hav]) fun i hi hj => ?_
  have hia : i < (leading a).length := by simpa [putBytes] using hi
  simp only [putBytes, List.getElem_map, List.getElem_range, getElem_leading, List.length_append]
  by_cases h1 : i < a.length
  · rw [if_neg (by omega), dif_pos (by omega), List.getElem_append_left h1, byteAt,
      List.getD_eq_getElem _ _ hia, getElem_leading, dif_pos h1]
  · by_cases h2 : i < a.length + v.length
    · rw [if_pos (by omega), dif_pos h2, List.getElem_append_right (by omega), byteAt,
        List.getD_eq_getElem]
    · rw [if_neg (by omega), dif_neg h2, byteAt, List.getD_eq_getElem _ _ hia, getElem_leading,
        dif_neg h1]

/-- Fields that follow one another from the area's start, as `vs` gives them. -/
def fieldsFrom (off : Nat) : List Bytes → List ResultField
  | [] => []
  | v :: vs => (off, v) :: fieldsFrom (off + v.length) vs

/-- Fields put one behind the other are the bytes that lead. -/
theorem foldl_fieldsFrom {a : Bytes} {vs : List Bytes} (h : a.length + vs.flatten.length ≤ 24) :
    (fieldsFrom (36 + a.length) vs).foldl (fun b f => putBytes b (f.1 - 36) f.2) (leading a)
      = leading (a ++ vs.flatten) := by
  induction vs generalizing a with
  | nil => simp [fieldsFrom]
  | cons v vs ih =>
    rw [List.flatten_cons, List.length_append] at h
    have hput := putBytes_leading_append (a := a) (v := v) (by omega)
    have hrest := ih (a := a ++ v) (by rw [List.length_append]; omega)
    rw [fieldsFrom, List.foldl_cons, Nat.add_sub_cancel_left, hput, List.flatten_cons,
      ← List.append_assoc, ← hrest, List.length_append, Nat.add_assoc]

section
variable {h : ServiceRequest} {rest : List ServiceRequest} {s : State}

/-- The head completes with an area that its fields fill with the bytes that lead. -/
theorem finish_area (hf : s.fifo = h :: rest) {st : Status} (hst : leavesArea st = false)
    {fields : List ResultField} {v : Bytes}
    (hv : fields.foldl (fun b f => putBytes b (f.1 - 36) f.2) (leading []) = leading v) :
    finish h st fields s = completedWith h rest st (leading v) s := by
  unfold finish serviceEntry
  rw [popHead_cons hf, if_neg (by simp [hst]), ← hv]
  rfl

/-- The head completes with fields that follow one another from the area's start. -/
theorem finish_fields (hf : s.fifo = h :: rest) {st : Status} (hst : leavesArea st = false)
    {vs : List Bytes} (hv : vs.flatten.length ≤ 24) :
    finish h st (fieldsFrom 36 vs) s = completedWith h rest st (leading vs.flatten) s :=
  finish_area hf hst (foldl_fieldsFrom (a := []) (by simpa using hv))

theorem finish_none (hf : s.fifo = h :: rest) {st : Status} (hst : leavesArea st = false) :
    finish h st [] s = completedWith h rest st (leading []) s :=
  finish_fields hf hst (vs := []) (by simp)

theorem finish_slice (hf : s.fifo = h :: rest) {st : Status} (hst : leavesArea st = false)
    (n : SliceNo) :
    finish h st [fSlice n] s = completedWith h rest st (leading [BitVec.ofNat 8 n.val]) s :=
  finish_fields hf hst (vs := [[BitVec.ofNat 8 n.val]]) (by simp)

theorem finish_slot (hf : s.fifo = h :: rest) {st : Status} (hst : leavesArea st = false)
    (n : SliceNo) (k : SlotNo) : finish h st [fSlice n, fSlot k] s
      = completedWith h rest st (leading [BitVec.ofNat 8 n.val, BitVec.ofNat 8 k.val]) s :=
  finish_fields hf hst (vs := [[BitVec.ofNat 8 n.val], [BitVec.ofNat 8 k.val]]) (by simp)

theorem finish_slotState (hf : s.fifo = h :: rest) {st : Status} (hst : leavesArea st = false)
    (n : SliceNo) (k : SlotNo) (x : SlotState) : finish h st [fSlice n, fSlot k, fSlotState x] s
      = completedWith h rest st
          (leading [BitVec.ofNat 8 n.val, BitVec.ofNat 8 k.val, slotStateCode x]) s :=
  finish_fields hf hst
    (vs := [[BitVec.ofNat 8 n.val], [BitVec.ofNat 8 k.val], [slotStateCode x]]) (by simp)

/-- IN_USE_COUNT stands at offset 39, behind two bytes that stay 0xFF. -/
theorem finish_inUse (hf : s.fifo = h :: rest) {st : Status} (hst : leavesArea st = false)
    (n : SliceNo) (c : Nat) : finish h st [fSlice n, fInUse c] s
      = completedWith h rest st (leading [BitVec.ofNat 8 n.val, 0xFF, 0xFF, BitVec.ofNat 8 c]) s := by
  have hslice : putBytes (leading []) 0 [BitVec.ofNat 8 n.val] = leading [BitVec.ofNat 8 n.val, 0xFF, 0xFF] :=
    putBytes_leading_append (a := []) (by simp)
  refine finish_area hf hst ?_
  rw [List.foldl_cons, List.foldl_cons, List.foldl_nil]
  exact (congrArg (putBytes · 3 [BitVec.ofNat 8 c]) hslice).trans
    (putBytes_leading_append (a := [BitVec.ofNat 8 n.val, 0xFF, 0xFF]) (by simp))

theorem length_leBytes16 (x : Half) : (leBytes16 x).length = 2 := rfl

theorem finish_priorDay (hf : s.fifo = h :: rest) {st : Status} (hst : leavesArea st = false)
    (d : Half) : finish h st [fPriorDay d] s = completedWith h rest st (leading (leBytes16 d)) s := by
  have hfin := finish_fields hf hst (vs := [leBytes16 d]) (by simp [length_leBytes16])
  rwa [List.flatten_singleton] at hfin

theorem finish_days (hf : s.fifo = h :: rest) {st : Status} (hst : leavesArea st = false)
    (p d : Half) (c l : Nat) : finish h st [fPriorDay p, fNewDay d, fChanged c, fLeft l] s
      = completedWith h rest st (leading (leBytes16 p ++ leBytes16 d ++ leBytes16 (BitVec.ofNat 16 c)
          ++ leBytes16 (BitVec.ofNat 16 l))) s := by
  have hfin := finish_fields hf hst
    (vs := [leBytes16 p, leBytes16 d, leBytes16 (BitVec.ofNat 16 c), leBytes16 (BitVec.ofNat 16 l)])
    (by simp [length_leBytes16])
  simp only [List.flatten_cons, List.flatten_nil, List.append_nil, List.append_assoc] at hfin ⊢
  exact hfin

end

/-! ## The checks of a service request (R95) -/

section
variable {s : State} {n : SliceNo} {b : Binding}

theorem committingDirectory_eq_false (h : ¬ CommittingDirectory s) : s.committingDirectory = false :=
  Bool.eq_false_iff.mpr (mt (committingDirectory_iff s).mp h)

theorem committingSlice_eq_false (h : ¬ CommittingSlice s n) : s.committingSlice n = false :=
  Bool.eq_false_iff.mpr (mt (committingSlice_iff s n).mp h)

theorem lockedSlice_of_binding (h : s.binding n = some b) : s.lockedSlice n = b.locked := by
  simp [State.lockedSlice, h]

theorem lowestFree_eq_none (h : ∀ n, n ≠ 0 → s.binding n ≠ none) : s.lowestFree = none := by
  refine List.find?_eq_none.mpr fun m _ hm => ?_
  simp only [Bool.and_eq_true, bne_iff_ne, Option.isNone_iff_eq_none] at hm
  exact h m (fun e => hm.1 (by rw [e]; rfl)) hm.2

theorem allSlices_pairwise : allSlices.Pairwise fun m n => m.val < n.val := by decide

theorem allSlots_pairwise : allSlots.Pairwise fun j k => j.val < k.val := by decide

theorem lowestFree_eq_some (hn : n ≠ 0) (hb : s.binding n = none)
    (hmin : ∀ m, m ≠ 0 → m.val < n.val → s.binding m ≠ none) : s.lowestFree = some n := by
  refine find?_eq_of_least allSlices_pairwise (mem_allSlices n) ?_ fun m _ hm => ?_
  · simpa [hb] using fun e => hn (Fin.ext e)
  · simp only [Bool.and_eq_true, bne_iff_ne, Option.isNone_iff_eq_none] at hm
    exact not_lt.mp fun hlt => hmin m (fun e => hm.1 (by rw [e]; rfl)) hlt hm.2

theorem inUse_eq_length (s : State) (n : SliceNo) :
    s.inUse n = (allSlots.filter fun k => (s.slot n k).state != .empty).length :=
  List.countP_eq_length_filter

theorem inUse_eq_zero_iff : s.inUse n = 0 ↔ ∀ k, (s.slot n k).state = .empty := by
  simp [State.inUse, List.countP_eq_zero, mem_allSlots]

end

/-! ## ISSUER_ADD, ISSUER_REMOVE, ISSUER_LOCK (R97 to R99) -/

section
variable {h : ServiceRequest} {rest : List ServiceRequest} {s : State} {n : SliceNo} {b : Binding}

theorem exec_issuerAdd (ha : Arrived .issuerAdd h rest s) :
    exec .issuerAdd s = .next (runIssuerAdd h s) := congrArg _ (onHead_of_arrived ha _)

theorem exec_issuerRemove (ha : Arrived .issuerRemove h rest s) :
    exec .issuerRemove s = .next (runIssuerRemove h s) := congrArg _ (onHead_of_arrived ha _)

theorem exec_issuerLock (ha : Arrived .issuerLock h rest s) :
    exec .issuerLock s = .next (runIssuerLock h s) := congrArg _ (onHead_of_arrived ha _)

/-- A code bound to no slice is bound to the lowest free slice, if the directory is not being committed. -/
theorem runIssuerAdd_of_unbound (h0 : le16 h.cell.bytes 6 ≠ 0) (hu : Unbound s (le16 h.cell.bytes 6)) :
    runIssuerAdd h s =
      if s.committingDirectory then finish h .busy [] s
      else
        match s.lowestFree with
        | none => finish h .noSlice [] s
        | some n => finish h .ok [fSlice n] (markDirectoryDirty (s.setBinding n
            (some { issuer := le16 h.cell.bytes 6, locked := false, dirty := true }))) := by
  have hs : s.sliceOf (srvIssuer h.cell.bytes) = none := sliceOf_of_unbound hu
  unfold runIssuerAdd
  simp only [hs]
  exact if_neg h0

/-- The checks of ISSUER_REMOVE on a bound slice. -/
theorem runIssuerRemove_of_boundTo (h0 : le16 h.cell.bytes 6 ≠ 0)
    (hn : BoundTo s (le16 h.cell.bytes 6) n) (hb : s.binding n = some b) :
    runIssuerRemove h s =
      if b.locked then finish h .locked [fSlice n] s
      else if s.committingDirectory || s.committingSlice n then finish h .busy [fSlice n] s
      else if s.inUse n ≠ 0 then finish h .wrongState [fSlice n, fInUse (s.inUse n)] s
      else finish h .ok [fSlice n] (markDirectoryDirty (s.setBinding n none)) := by
  have hs : s.sliceOf (srvIssuer h.cell.bytes) = some n := sliceOf_of_boundTo hn
  unfold runIssuerRemove
  simp only [hs, lockedSlice_of_binding hb]
  exact if_neg h0

theorem issuerAdd_checks (ha : Arrived .issuerAdd h rest s) :
    (le16 h.cell.bytes 6 = 0 → exec .issuerAdd s = .next (completedAsWritten h rest .malformed s))
    ∧ ∀ n, le16 h.cell.bytes 6 ≠ 0 → BoundTo s (le16 h.cell.bytes 6) n →
        exec .issuerAdd s =
          .next (completedWith h rest .issuerExists (leading [BitVec.ofNat 8 n.val]) s) := by
  obtain ⟨_, hf, _, _⟩ := id ha
  rw [exec_issuerAdd ha]
  refine ⟨fun h0 => ?_, fun n h0 hn => ?_⟩
  · rw [← finish_asWritten hf rfl []]
    exact congrArg _ (if_pos h0)
  · have hs : s.sliceOf (srvIssuer h.cell.bytes) = some n := sliceOf_of_boundTo hn
    rw [← finish_slice hf rfl]
    unfold runIssuerAdd
    simp only [hs]
    exact congrArg _ (if_neg h0)

theorem issuerAdd_adds (ha : Arrived .issuerAdd h rest s) (h0 : le16 h.cell.bytes 6 ≠ 0)
    (hu : Unbound s (le16 h.cell.bytes 6)) (hc : ¬ CommittingDirectory s) (hn : n ≠ 0)
    (hb : s.binding n = none) (hmin : ∀ m, m ≠ 0 → m.val < n.val → s.binding m ≠ none) :
    exec .issuerAdd s = .next (completedWith h rest .ok (leading [BitVec.ofNat 8 n.val])
      { s with
        directory := s.directory.set n
          (some { issuer := le16 h.cell.bytes 6, locked := false, dirty := true })
        dirDirty := true }) := by
  obtain ⟨_, hf, _, _⟩ := id ha
  rw [exec_issuerAdd ha, runIssuerAdd_of_unbound h0 hu, committingDirectory_eq_false hc,
    if_neg Bool.false_ne_true, lowestFree_eq_some hn hb hmin]
  exact congrArg _ (finish_slice (s := markDirectoryDirty (s.setBinding n _)) hf rfl n)

end

/-- Settles O37: each case fixes the outcome of the checks before it, and what is left is one completion of
the head. -/
theorem issuerRequests : Obligations.IssuerRequests := by
  unfold Obligations.IssuerRequests
  refine ⟨?_, ?_, ?_⟩
  · rintro h rest _ s ha rfl
    obtain ⟨_, hf, _, _⟩ := id ha
    obtain ⟨hzero, hexists⟩ := issuerAdd_checks ha
    refine ⟨hzero, hexists, fun h0 hu => ⟨fun hc => ?_, fun hc hall => ?_,
      fun n hc => issuerAdd_adds ha h0 hu hc⟩⟩
    · rw [exec_issuerAdd ha, runIssuerAdd_of_unbound h0 hu, if_pos ((committingDirectory_iff s).mpr hc),
        finish_none hf rfl]
    · rw [exec_issuerAdd ha, runIssuerAdd_of_unbound h0 hu, committingDirectory_eq_false hc,
        if_neg Bool.false_ne_true, lowestFree_eq_none hall, ← finish_none hf rfl]
  · rintro h rest _ s ha rfl
    obtain ⟨_, hf, _, _⟩ := id ha
    rw [exec_issuerRemove ha]
    refine ⟨fun hno => ?_, fun n b h0 hn hb => ?_⟩
    · rw [← finish_none hf rfl]
      unfold runIssuerRemove
      dsimp only
      split_ifs with h0
      · rfl
      · have hs : s.sliceOf (srvIssuer h.cell.bytes) = none := sliceOf_of_unbound (hno.resolve_left h0)
        rw [hs]
    · rw [runIssuerRemove_of_boundTo h0 hn hb]
      refine ⟨fun hl => ?_, fun hl hbusy => ?_, fun hl hcd hcs => ⟨fun ⟨k, hk⟩ => ?_, fun hall => ?_⟩⟩
      · rw [if_pos hl, finish_slice hf rfl]
      · rw [← committingDirectory_iff, ← committingSlice_iff, ← Bool.or_eq_true] at hbusy
        rw [hl, if_neg Bool.false_ne_true, if_pos hbusy, finish_slice hf rfl]
      · rw [hl, committingDirectory_eq_false hcd, committingSlice_eq_false hcs, Bool.or_self,
          if_neg Bool.false_ne_true, if_neg Bool.false_ne_true,
          if_pos fun hz => hk (inUse_eq_zero_iff.mp hz k), finish_inUse hf rfl, inUse_eq_length]
      · rw [hl, committingDirectory_eq_false hcd, committingSlice_eq_false hcs, Bool.or_self,
          if_neg Bool.false_ne_true, if_neg Bool.false_ne_true,
          if_neg (not_not.mpr (inUse_eq_zero_iff.mpr hall))]
        exact congrArg _ (finish_slice (s := markDirectoryDirty (s.setBinding n none)) hf rfl n)
  · rintro h rest _ s ha rfl
    obtain ⟨_, hf, _, _⟩ := id ha
    rw [exec_issuerLock ha]
    refine ⟨fun hu => ?_, fun n b hn hb => ?_⟩
    · have hs : s.sliceOf (srvIssuer h.cell.bytes) = none := sliceOf_of_unbound hu
      rw [runIssuerLock, hs, ← finish_none hf rfl]
    · have hs : s.sliceOf (srvIssuer h.cell.bytes) = some n := sliceOf_of_boundTo hn
      rw [runIssuerLock, hs]
      dsimp only
      rw [hb, Option.map_some]
      exact congrArg _ (finish_slice (s := s.setBinding n _) hf rfl n)

end Sys2Proof.Machine
end

section
namespace Sys2Proof.Machine

/-! ## Slots replaced beside a marked slice (R83, R84) -/

section
variable {s : State} {n : SliceNo} {k : SlotNo} {b : Binding} {x : Slot}

/-- A mark set on a bound slice that no COMMIT holds. -/
theorem markSliceDirty_eq (hb : s.binding n = some b) (hc : ¬ CommittingSlice s n) :
    markSliceDirty n s = { s with directory := s.directory.set n (some { b with dirty := true }) } := by
  have hop : remarkSlice n s.nvmOp = s.nvmOp :=
    remarkSlice_of_other fun r q code hr hq ht => hc ⟨r, q, code, hr, hq, ht⟩
  rw [markSliceDirty, hop, hb, Option.map_some]

/-- One slot of the array is replaced and the others stand. -/
theorem setSlot_slices (s : State) (n : SliceNo) (k : SlotNo) (x : Slot) :
    ((s.setSlot n k x).slices[n])[k] = x
      ∧ ∀ m j, (m, j) ≠ (n, k) → ((s.setSlot n k x).slices[m])[j] = s.slot m j := by
  refine ⟨(State.slot_setSlot s n n k k x).trans (if_pos ⟨rfl, rfl⟩), fun m j hne => ?_⟩
  refine (State.slot_setSlot s n m k j x).trans (if_neg ?_)
  rintro ⟨rfl, rfl⟩
  exact hne rfl

/-- A slot replaced with its epoch raised, its entries purged and its slice marked. -/
theorem replaceMarked_eq (hb : s.binding n = some b) (hc : ¬ CommittingSlice s n) :
    ∃ slices', markSliceDirty n (replaceSlot n k x s) = { s with
        slices := slices'
        directory := s.directory.set n (some { b with dirty := true })
        cache := s.cache.filter fun y => !(y.ref.slice == n && y.ref.slot == k) }
      ∧ (slices'[n])[k] = { x with epoch := (s.slot n k).epoch + 1 }
      ∧ ∀ m j, (m, j) ≠ (n, k) → (slices'[m])[j] = s.slot m j := by
  refine ⟨_, ?_, setSlot_slices s n k { x with epoch := (s.slot n k).epoch + 1 }⟩
  exact markSliceDirty_eq (s := replaceSlot n k x s) hb hc

/-- A FAULTY slot emptied with its epoch kept. -/
theorem eraseFaulty_eq (hb : s.binding n = some b) (hc : ¬ CommittingSlice s n) :
    ∃ slices', eraseFaulty n k s = { s with
        slices := slices', directory := s.directory.set n (some { b with dirty := true }) }
      ∧ (slices'[n])[k] = (s.slot n k).cleared
      ∧ ∀ m j, (m, j) ≠ (n, k) → (slices'[m])[j] = s.slot m j := by
  refine ⟨_, ?_, setSlot_slices s n k (s.slot n k).cleared⟩
  exact markSliceDirty_eq (s := s.setSlot n k (s.slot n k).cleared) hb hc

/-- The lowest EMPTY slot is the one found. -/
theorem lowestEmpty_eq_some (hk : (s.slot n k).state = .empty)
    (hmin : ∀ j, j.val < k.val → (s.slot n j).state ≠ .empty) : s.lowestEmpty n = some k :=
  find?_eq_of_least allSlots_pairwise (mem_allSlots k) (by simp [hk]) fun j _ hj =>
    not_lt.mp fun hlt => hmin j hlt (by simpa using hj)

theorem faultyBlank_iff (x : Slot) : x.faultyBlank = true ↔ x.state = .faulty ∧ x.info = none := by
  simp [Slot.faultyBlank]

theorem lowestBlank_eq_some (hk : (s.slot n k).state = .faulty ∧ (s.slot n k).info = none)
    (hmin : ∀ j, j.val < k.val → ¬ ((s.slot n j).state = .faulty ∧ (s.slot n j).info = none)) :
    s.lowestBlank n = some k :=
  find?_eq_of_least allSlots_pairwise (mem_allSlots k) ((faultyBlank_iff _).mpr hk) fun j _ hj =>
    not_lt.mp fun hlt => hmin j hlt ((faultyBlank_iff _).mp hj)

theorem lowestBlank_eq_none
    (h : ∀ j, ¬ ((s.slot n j).state = .faulty ∧ (s.slot n j).info = none)) : s.lowestBlank n = none :=
  List.find?_eq_none.mpr fun j _ hj => h j ((faultyBlank_iff _).mp hj)

end

/-! ## The completion of a KEY_STAGE (R93, R101) -/

section
variable {s : State} {e : EngineNo} {w : ServiceWork} {h : ServiceRequest} {rest : List ServiceRequest}
  {n : SliceNo} {k : SlotNo} {b : Binding}

/-- The engine of a KEY_STAGE ends its work ahead of GT. -/
theorem exec_unwrap_of_stage (he : s.engine e = some (.service w)) (hf : s.fifo = h :: rest)
    (hp : h.phase = .inEngine) (hk : h.kind = .keyStage) (hgt : 0 ≤ (w.workEnd - s.gt).toInt) :
    exec (.serviceUnwrapComplete e) s = .next (completeStage h (candidateKey w) (kcvGood w)
      { s with gt := w.workEnd, engines := s.engines.set e none }) := by
  have hw : s.serviceAt e = some w := by rw [State.serviceAt, he]
  show execServiceUnwrapComplete e s = _
  simp only [execServiceUnwrapComplete, hw, runTo_of_ahead s w.workEnd hgt, completeUnwrap,
    State.setEngine, hf, hp, hk, if_true]

/-- The stage completes into the lowest EMPTY slot, or not at all. -/
theorem completeStage_eq (key : Bytes) (good : Bool) (hn : BoundTo s (le16 h.cell.bytes 6) n)
    (hk : (s.slot n k).state = .empty) (hmin : ∀ j, j.val < k.val → (s.slot n j).state ≠ .empty) :
    completeStage h key good s =
      if good then
        finish h .ok [fSlice n, fSlot k, fSlotState (dayState s.currentDay (stageInfo h.cell.bytes))]
          (markSliceDirty n (replaceSlot n k (filledSlot h.cell.bytes s.currentDay key) s))
      else finish h .wrapCheck [fSlice n, fSlot k] s := by
  have hs : s.sliceOf (srvIssuer h.cell.bytes) = some n := sliceOf_of_boundTo hn
  simp only [completeStage, hs, lowestEmpty_eq_some hk hmin]

theorem kcvGood_iff (w : ServiceWork) : kcvGood w = true
    ↔ (blockE (blockD w.transportKey w.wrapped) (List.replicate 16 0)).take 3 = w.kcv := beq_iff_eq

end

/-- Settles O40: the completion of the engine is that of the head in the state with GT run on and the engine
free, and a good KCV makes one marked replacement. -/
theorem keyStageFills : Obligations.KeyStageFills := by
  unfold Obligations.KeyStageFills
  rintro e w h rest n k b u s he hf hp hkind hn hb hk hmin hgt rfl
  rw [exec_unwrap_of_stage he hf hp hkind hgt,
    completeStage_eq (s := { s with gt := w.workEnd, engines := s.engines.set e none }) _ _ hn hk hmin]
  refine ⟨fun hbad => ?_, ?_⟩
  · rw [if_neg (mt (kcvGood_iff w).mp hbad)]
    exact congrArg _ (finish_slot
      (s := { s with gt := w.workEnd, engines := s.engines.set e none }) hf rfl n k)
  · rintro i st hgood rfl rfl hc
    rw [if_pos ((kcvGood_iff w).mpr hgood)]
    obtain ⟨slices', heq, hnk, hother⟩ := replaceMarked_eq (k := k)
      (x := filledSlot h.cell.bytes s.currentDay (candidateKey w))
      (s := { s with gt := w.workEnd, engines := s.engines.set e none }) hb hc
    refine ⟨slices', ?_, hnk, hother⟩
    rw [heq]
    exact congrArg _ (finish_slotState (s := { s with
      gt := w.workEnd, engines := s.engines.set e none, slices := slices'
      directory := s.directory.set n (some { b with dirty := true })
      cache := s.cache.filter fun y => !(y.ref.slice == n && y.ref.slot == k) }) hf rfl n k _)

/-! ## KEY_REVOKE and KEY_ERASE (R103 to R105) -/

section
variable {h : ServiceRequest} {rest : List ServiceRequest} {s : State} {n : SliceNo} {k : SlotNo}
  {b : Binding}

theorem exec_keyRevoke (ha : Arrived .keyRevoke h rest s) :
    exec .keyRevoke s = .next (runKeyRevoke h s) := congrArg _ (onHead_of_arrived ha _)

theorem exec_keyErase (ha : Arrived .keyErase h rest s) :
    exec .keyErase s = .next (runKeyErase h s) := congrArg _ (onHead_of_arrived ha _)

/-- The checks of KEY_REVOKE on a bound slice. -/
theorem runKeyRevoke_of_boundTo (hn : BoundTo s (le16 h.cell.bytes 6) n) (hb : s.binding n = some b) :
    runKeyRevoke h s =
      if b.locked then finish h .locked [fSlice n] s
      else if s.committingSlice n then finish h .busy [fSlice n] s
      else
        match s.slotOfGen n (byteAt h.cell.bytes 8) with
        | none => finish h .wrongState [fSlice n] s
        | some k =>
          finish h .ok [fSlice n, fSlot k, fSlotState (s.slot n k).state]
            (if (s.slot n k).live then
              markSliceDirty n (replaceSlot n k { s.slot n k with state := .revoked } s)
            else s) := by
  have hs : s.sliceOf (srvIssuer h.cell.bytes) = some n := sliceOf_of_boundTo hn
  simp only [runKeyRevoke, hs, lockedSlice_of_binding hb]
  rfl

/-- With the first two checks of KEY_REVOKE passed, the slot that carries the generation decides. -/
theorem runKeyRevoke_of_open (hn : BoundTo s (le16 h.cell.bytes 6) n) (hb : s.binding n = some b)
    (hl : b.locked = false) (hc : ¬ CommittingSlice s n) :
    runKeyRevoke h s =
      match s.slotOfGen n (byteAt h.cell.bytes 8) with
      | none => finish h .wrongState [fSlice n] s
      | some k =>
        finish h .ok [fSlice n, fSlot k, fSlotState (s.slot n k).state]
          (if (s.slot n k).live then
            markSliceDirty n (replaceSlot n k { s.slot n k with state := .revoked } s)
          else s) := by
  rw [runKeyRevoke_of_boundTo hn hb, hl, committingSlice_eq_false hc]
  rfl

/-- The checks of KEY_ERASE on a bound slice. -/
theorem runKeyErase_of_boundTo (hn : BoundTo s (le16 h.cell.bytes 6) n) (hb : s.binding n = some b) :
    runKeyErase h s =
      if b.locked then finish h .locked [fSlice n] s
      else if s.committingSlice n then finish h .busy [fSlice n] s
      else
        match s.slotOfGen n (byteAt h.cell.bytes 8) with
        | some k => eraseMatched h n k s
        | none =>
          match s.lowestBlank n with
          | some k => finish h .ok [fSlice n, fSlot k, fSlotState .faulty] (eraseFaulty n k s)
          | none => finish h .wrongState [fSlice n] s := by
  have hs : s.sliceOf (srvIssuer h.cell.bytes) = some n := sliceOf_of_boundTo hn
  simp only [runKeyErase, hs, lockedSlice_of_binding hb]
  rfl

theorem keyRevoke_unbound (ha : Arrived .keyRevoke h rest s) (hu : Unbound s (le16 h.cell.bytes 6)) :
    exec .keyRevoke s = .next (completedWith h rest .noIssuer (leading []) s) := by
  obtain ⟨_, hf, _, _⟩ := id ha
  have hs : s.sliceOf (srvIssuer h.cell.bytes) = none := sliceOf_of_unbound hu
  rw [exec_keyRevoke ha, ← finish_none hf rfl]
  simp only [runKeyRevoke, hs]

theorem keyErase_unbound (ha : Arrived .keyErase h rest s) (hu : Unbound s (le16 h.cell.bytes 6)) :
    exec .keyErase s = .next (completedWith h rest .noIssuer (leading []) s) := by
  obtain ⟨_, hf, _, _⟩ := id ha
  have hs : s.sliceOf (srvIssuer h.cell.bytes) = none := sliceOf_of_unbound hu
  rw [exec_keyErase ha, ← finish_none hf rfl]
  simp only [runKeyErase, hs]

/-- A LIVE slot is revoked with its fields kept. -/
theorem revoked_eq (hf : s.fifo = h :: rest) (hb : s.binding n = some b) (hc : ¬ CommittingSlice s n)
    (x : SlotState) :
    ∃ slices', finish h .ok [fSlice n, fSlot k, fSlotState x]
        (markSliceDirty n (replaceSlot n k { s.slot n k with state := .revoked } s))
      = completedWith h rest .ok
          (leading [BitVec.ofNat 8 n.val, BitVec.ofNat 8 k.val, slotStateCode x])
          { s with
            slices := slices'
            directory := s.directory.set n (some { b with dirty := true })
            cache := s.cache.filter fun y => !(y.ref.slice == n && y.ref.slot == k) }
      ∧ (slices'[n])[k] = { s.slot n k with state := .revoked, epoch := (s.slot n k).epoch + 1 }
      ∧ ∀ m j, (m, j) ≠ (n, k) → (slices'[m])[j] = s.slot m j := by
  obtain ⟨slices', heq, hnk, hother⟩ :=
    replaceMarked_eq (k := k) (x := { s.slot n k with state := .revoked }) hb hc
  refine ⟨slices', ?_, hnk, hother⟩
  rw [heq]
  exact finish_slotState (s := { s with
    slices := slices'
    directory := s.directory.set n (some { b with dirty := true })
    cache := s.cache.filter fun y => !(y.ref.slice == n && y.ref.slot == k) }) hf rfl n k x

/-- What KEY_ERASE does to slot `k`: a FAULTY slot keeps its epoch and holds no cache entry. -/
def erased (n : SliceNo) (k : SlotNo) (s : State) : State :=
  if (s.slot n k).state = .faulty then eraseFaulty n k s else eraseKeyed n k s

theorem eraseMatched_eq (hst : (s.slot n k).state = .staged ∨ (s.slot n k).state = .expired
      ∨ (s.slot n k).state = .revoked ∨ (s.slot n k).state = .faulty) :
    eraseMatched h n k s
      = finish h .ok [fSlice n, fSlot k, fSlotState (s.slot n k).state] (erased n k s) := by
  unfold eraseMatched erased
  rcases hst with e | e | e | e <;> rw [e] <;> rfl

theorem eraseMatched_of_serving
    (hst : (s.slot n k).state = .active ∨ (s.slot n k).state = .retiring) :
    eraseMatched h n k s
      = finish h .wrongState [fSlice n, fSlot k, fSlotState (s.slot n k).state] s := by
  unfold eraseMatched
  rcases hst with e | e <;> rw [e]

/-- The slot is emptied, with its epoch raised and its entries purged unless it was FAULTY. -/
theorem erased_eq (hb : s.binding n = some b) (hc : ¬ CommittingSlice s n) :
    ∃ slices', erased n k s = { s with
        slices := slices'
        directory := s.directory.set n (some { b with dirty := true })
        cache := if (s.slot n k).state = .faulty then s.cache
          else s.cache.filter fun y => !(y.ref.slice == n && y.ref.slot == k) }
      ∧ (slices'[n])[k] =
          { state := .empty, info := none, key := none
            epoch := if (s.slot n k).state = .faulty then (s.slot n k).epoch
              else (s.slot n k).epoch + 1 }
      ∧ ∀ m j, (m, j) ≠ (n, k) → (slices'[m])[j] = s.slot m j := by
  unfold erased
  split_ifs
  · exact eraseFaulty_eq hb hc
  · exact replaceMarked_eq (x := (s.slot n k).cleared) hb hc

/-- KEY_ERASE accepted: the slot is emptied and its prior state returned. -/
theorem finish_erased (hf : s.fifo = h :: rest) (hb : s.binding n = some b)
    (hc : ¬ CommittingSlice s n) (x : SlotState) :
    ∃ slices', finish h .ok [fSlice n, fSlot k, fSlotState x] (erased n k s)
      = completedWith h rest .ok
          (leading [BitVec.ofNat 8 n.val, BitVec.ofNat 8 k.val, slotStateCode x])
          { s with
            slices := slices'
            directory := s.directory.set n (some { b with dirty := true })
            cache := if (s.slot n k).state = .faulty then s.cache
              else s.cache.filter fun y => !(y.ref.slice == n && y.ref.slot == k) }
      ∧ (slices'[n])[k] =
          { state := .empty, info := none, key := none
            epoch := if (s.slot n k).state = .faulty then (s.slot n k).epoch
              else (s.slot n k).epoch + 1 }
      ∧ ∀ m j, (m, j) ≠ (n, k) → (slices'[m])[j] = s.slot m j := by
  obtain ⟨slices', heq, hnk, hother⟩ := erased_eq (k := k) hb hc
  refine ⟨slices', ?_, hnk, hother⟩
  rw [heq]
  exact finish_slotState (s := { s with
    slices := slices'
    directory := s.directory.set n (some { b with dirty := true })
    cache := if (s.slot n k).state = .faulty then s.cache
      else s.cache.filter fun y => !(y.ref.slice == n && y.ref.slot == k) }) hf rfl n k x

/-- With the first two checks of KEY_ERASE passed, the slots of the slice decide. -/
theorem runKeyErase_of_open (hn : BoundTo s (le16 h.cell.bytes 6) n) (hb : s.binding n = some b)
    (hl : b.locked = false) (hc : ¬ CommittingSlice s n) :
    runKeyErase h s =
      match s.slotOfGen n (byteAt h.cell.bytes 8) with
      | some k => eraseMatched h n k s
      | none =>
        match s.lowestBlank n with
        | some k => finish h .ok [fSlice n, fSlot k, fSlotState .faulty] (eraseFaulty n k s)
        | none => finish h .wrongState [fSlice n] s := by
  rw [runKeyErase_of_boundTo hn hb, hl, committingSlice_eq_false hc]
  rfl

/-- The slot that KEY_ERASE takes: the one that carries the generation, or the lowest FAULTY slot without
one. -/
theorem runKeyErase_accepted (hn : BoundTo s (le16 h.cell.bytes 6) n) (hb : s.binding n = some b)
    (hl : b.locked = false) (hc : ¬ CommittingSlice s n)
    (hk : (Carries s n k (byteAt h.cell.bytes 8)
        ∧ ((s.slot n k).state = .staged ∨ (s.slot n k).state = .expired
          ∨ (s.slot n k).state = .revoked ∨ (s.slot n k).state = .faulty))
      ∨ (CarriedByNone s n (byteAt h.cell.bytes 8)
        ∧ (s.slot n k).state = .faulty ∧ (s.slot n k).info = none
        ∧ ∀ j, j.val < k.val → ¬ ((s.slot n j).state = .faulty ∧ (s.slot n j).info = none))) :
    runKeyErase h s
      = finish h .ok [fSlice n, fSlot k, fSlotState (s.slot n k).state] (erased n k s) := by
  rw [runKeyErase_of_open hn hb hl hc]
  rcases hk with ⟨hcar, hst⟩ | ⟨hnone, hst, hi, hmin⟩
  · rw [slotOfGen_of_carries hcar]
    exact eraseMatched_eq hst
  · rw [slotOfGen_of_carriedByNone hnone, lowestBlank_eq_some ⟨hst, hi⟩ hmin, erased, if_pos hst, hst]

end

/-- Settles O41: each case fixes the outcome of the checks before it, and the slot found is replaced or
emptied beside its marked slice. -/
theorem keyRevokeAndErase : Obligations.KeyRevokeAndErase := by
  unfold Obligations.KeyRevokeAndErase
  refine ⟨?_, ?_⟩
  · rintro h rest _ s ha rfl
    obtain ⟨_, hf, _, _⟩ := id ha
    refine ⟨keyRevoke_unbound ha, fun n b hn hb => ?_⟩
    rw [exec_keyRevoke ha]
    refine ⟨fun hl => ?_, fun hl hbusy => ?_, fun hl hc => ⟨fun hnone => ?_, fun k hk => ?_⟩⟩
    · rw [runKeyRevoke_of_boundTo hn hb, if_pos hl, finish_slice hf rfl]
    · rw [runKeyRevoke_of_boundTo hn hb, hl, if_neg Bool.false_ne_true,
        if_pos ((committingSlice_iff s n).mpr hbusy), finish_slice hf rfl]
    · rw [runKeyRevoke_of_open hn hb hl hc, slotOfGen_of_carriedByNone hnone, ← finish_slice hf rfl]
    · rw [runKeyRevoke_of_open hn hb hl hc, slotOfGen_of_carries hk]
      dsimp only
      refine ⟨fun hst => ?_, fun hlive => ?_⟩
      · have hlive : (s.slot n k).live = false := by rcases hst with e | e <;> rw [Slot.live, e]
        rw [hlive, if_neg Bool.false_ne_true, finish_slotState hf rfl]
      · rw [if_pos hlive]
        obtain ⟨slices', heq, hrest⟩ := revoked_eq (k := k) hf hb hc (s.slot n k).state
        exact ⟨slices', congrArg _ heq, hrest⟩
  · rintro h rest _ s ha rfl
    obtain ⟨_, hf, _, _⟩ := id ha
    refine ⟨keyErase_unbound ha, fun n b hn hb => ?_⟩
    rw [exec_keyErase ha]
    refine ⟨fun hl => ?_, fun hl hbusy => ?_, fun hl hc => ⟨fun k hk hst => ?_, fun hnone hblank => ?_,
      fun k hk => ?_⟩⟩
    · rw [runKeyErase_of_boundTo hn hb, if_pos hl, finish_slice hf rfl]
    · rw [runKeyErase_of_boundTo hn hb, hl, if_neg Bool.false_ne_true,
        if_pos ((committingSlice_iff s n).mpr hbusy), finish_slice hf rfl]
    · rw [runKeyErase_of_open hn hb hl hc, slotOfGen_of_carries hk, ← finish_slotState hf rfl]
      exact congrArg _ (eraseMatched_of_serving hst)
    · rw [runKeyErase_of_open hn hb hl hc, slotOfGen_of_carriedByNone hnone,
        lowestBlank_eq_none hblank, ← finish_slice hf rfl]
    · rw [runKeyErase_accepted hn hb hl hc hk]
      obtain ⟨slices', heq, hrest⟩ := finish_erased (k := k) hf hb hc (s.slot n k).state
      exact ⟨slices', congrArg _ heq, hrest⟩

end Sys2Proof.Machine
end

section
namespace Sys2Proof.Machine

/-! ## SET_DAY (R106, R107) -/

/-! ### The slots that the sweep changes -/

/-- A slot that is not LIVE is not swept. -/
theorem sweepSlot_of_not_live {d : Half} {x : Slot} (h : x.live = false) : sweepSlot d x = x := by
  have hstay : ¬ leavesService d x = true := fun hl => by
    rw [Slot.live_of_serving ((leavesService_iff d x).mp hl).1] at h
    cases h
  rw [sweepSlot, if_neg hstay, sweptState_of_not_live h]

/-- A LIVE slot follows the day function, its epoch raised when it leaves ACTIVE and RETIRING. -/
theorem sweepSlot_of_live {d : Half} {x : Slot} {i : SlotInfo} (h : x.live = true)
    (hi : x.info = some i) : sweepSlot d x = { x with
      state := dayState d i
      epoch := if x.serving = true ∧ dayState d i = .expired then x.epoch + 1 else x.epoch } := by
  simp only [sweepSlot, leavesService_iff, sweptState_of_live h hi]

theorem sweepSlot_state_ne_iff (d : Half) (x : Slot) :
    (sweepSlot d x).state ≠ x.state ↔ (x.live && sweptState d x != x.state) = true := by
  cases h : x.live with
  | false => simp [sweepSlot_of_not_live h]
  | true => simp [sweepSlot]

theorem sweepSlot_epoch_eq_iff (d : Half) (x : Slot) :
    (sweepSlot d x).epoch = x.epoch ↔ leavesService d x = false := by
  cases h : leavesService d x with
  | false => simp [sweepSlot, h]
  | true => simp [sweepSlot, h]

section
variable {s : State} {d : Half} {v : Vector (Vector Slot 8) 32}

/-- The slots of bound slices that satisfy a test, counted over all slots. -/
theorem countBound_eq_length {p : Slot → Bool} {q : SliceNo × SlotNo → Bool}
    (h : ∀ n k, s.boundSlot n k p = q (n, k)) :
    s.countBound p
      = ((allSlices.flatMap fun n => allSlots.map fun k => (n, k)).filter q).length := by
  rw [← List.countP_eq_length_filter, List.countP_flatMap, State.countBound]
  refine congrArg List.sum (List.map_congr_left fun n _ => ?_)
  rw [Function.comp_apply, List.countP_map]
  exact List.countP_congr fun k _ => by rw [h]; rfl

/-- `v` holds the slots after the sweep: those of bound slices swept. -/
def SweptSlots (d : Half) (s : State) (v : Vector (Vector Slot 8) 32) : Prop :=
  ∀ n k, (v[n])[k] = if (s.binding n).isSome then sweepSlot d (s.slot n k) else s.slot n k

theorem SweptSlots.of_bound (h : SweptSlots d s v) {n : SliceNo} (hb : (s.binding n).isSome = true)
    (k : SlotNo) : (v[n])[k] = sweepSlot d (s.slot n k) := (h n k).trans (if_pos hb)

theorem SweptSlots.of_free (h : SweptSlots d s v) {n : SliceNo} (hb : (s.binding n).isSome = false)
    (k : SlotNo) : (v[n])[k] = s.slot n k := (h n k).trans (if_neg (Bool.eq_false_iff.mp hb))

/-- The slots whose state the sweep changes are those that its count takes. -/
theorem SweptSlots.changed (h : SweptSlots d s v) (n : SliceNo) (k : SlotNo) :
    s.boundSlot n k (fun x => x.live && sweptState d x != x.state)
      = decide ((v[n])[k].state ≠ (s.slot n k).state) := by
  unfold State.boundSlot
  cases hb : (s.binding n).isSome with
  | false => rw [h.of_free hb]; simp
  | true =>
    rw [h.of_bound hb, Bool.true_and, Bool.eq_iff_iff, decide_eq_true_iff, sweepSlot_state_ne_iff]

/-- The slots whose epoch stands are those that do not leave ACTIVE and RETIRING. -/
theorem SweptSlots.stays (h : SweptSlots d s v) (n : SliceNo) (k : SlotNo) :
    (!s.boundSlot n k (leavesService d)) = decide ((v[n])[k].epoch = (s.slot n k).epoch) := by
  unfold State.boundSlot
  cases hb : (s.binding n).isSome with
  | false => rw [h.of_free hb]; simp
  | true =>
    rw [h.of_bound hb, Bool.true_and, Bool.eq_iff_iff, decide_eq_true_iff, sweepSlot_epoch_eq_iff,
      Bool.not_eq_true']

theorem SweptSlots.left (h : SweptSlots d s v) (n : SliceNo) (k : SlotNo) :
    s.boundSlot n k (leavesService d) = decide ((v[n])[k].epoch ≠ (s.slot n k).epoch) := by
  rw [decide_not, ← h.stays n k, Bool.not_not]

/-- The sweep, with the entries whose slot keeps its epoch left in the cache. -/
theorem daySweep_eq (d : Half) (s : State) : ∃ v, SweptSlots d s v ∧ daySweep d s = { s with
    currentDay := d, slices := v
    cache := s.cache.filter fun x => decide
      ((v[x.ref.slice])[x.ref.slot].epoch = (s.slot x.ref.slice x.ref.slot).epoch) } := by
  have hslot := daySweep_slot d s
  obtain ⟨v, hv⟩ := daySweep_frame d s
  rw [hv] at hslot ⊢
  have hswept : SweptSlots d s v := hslot
  refine ⟨v, hswept, ?_⟩
  rw [List.filter_congr fun x _ => hswept.stays x.ref.slice x.ref.slot]

end

section
variable {h : ServiceRequest} {rest : List ServiceRequest} {s : State}

theorem exec_setDay (ha : Arrived .setDay h rest s) :
    exec .setDay s = .next (runSetDay h s) := congrArg _ (onHead_of_arrived ha _)

/-- The checks of SET_DAY for a day that is not earlier. -/
theorem runSetDay_of_not_back (hd : ¬ (le16 h.cell.bytes 6).toNat < s.currentDay.toNat)
    (hc : ¬ CommittingDirectory s) :
    runSetDay h s =
      if le16 h.cell.bytes 6 = s.currentDay then
        finish h .ok [fPriorDay s.currentDay, fNewDay (le16 h.cell.bytes 6), fChanged 0, fLeft 0] s
      else
        finish h .ok
          [fPriorDay s.currentDay, fNewDay (le16 h.cell.bytes 6),
            fChanged (s.countBound fun x => x.live && sweptState (le16 h.cell.bytes 6) x != x.state),
            fLeft (s.countBound (leavesService (le16 h.cell.bytes 6)))]
          (markDirectoryDirty (daySweep (le16 h.cell.bytes 6) s)) := by
  have hback : ¬ (srvDay h.cell.bytes).toNat < s.currentDay.toNat := hd
  unfold runSetDay
  dsimp only
  rw [if_neg hback, committingDirectory_eq_false hc, if_neg Bool.false_ne_true]
  rfl

/-- A later day is swept in. -/
theorem runSetDay_of_later (hf : s.fifo = h :: rest)
    (hd : s.currentDay.toNat < (le16 h.cell.bytes 6).toNat) (hc : ¬ CommittingDirectory s) :
    ∃ v, SweptSlots (le16 h.cell.bytes 6) s v ∧
      runSetDay h s = completedWith h rest .ok (leading (leBytes16 s.currentDay
          ++ leBytes16 (le16 h.cell.bytes 6)
          ++ leBytes16 (BitVec.ofNat 16
            (s.countBound fun x => x.live && sweptState (le16 h.cell.bytes 6) x != x.state))
          ++ leBytes16 (BitVec.ofNat 16 (s.countBound (leavesService (le16 h.cell.bytes 6))))))
        { s with
          currentDay := le16 h.cell.bytes 6, dirDirty := true, slices := v
          cache := s.cache.filter fun x => decide
            ((v[x.ref.slice])[x.ref.slot].epoch = (s.slot x.ref.slice x.ref.slot).epoch) } := by
  obtain ⟨v, hv, heq⟩ := daySweep_eq (le16 h.cell.bytes 6) s
  refine ⟨v, hv, ?_⟩
  rw [runSetDay_of_not_back hd.le.not_gt hc, if_neg fun e => hd.ne (congrArg BitVec.toNat e).symm, heq]
  exact finish_days (s := markDirectoryDirty { s with
    currentDay := le16 h.cell.bytes 6, slices := v
    cache := s.cache.filter fun x => decide
      ((v[x.ref.slice])[x.ref.slot].epoch = (s.slot x.ref.slice x.ref.slot).epoch) }) hf rfl _ _ _ _

end

/-- Settles O42: an earlier or the present day ends at its check; a later day replaces the slots by the swept
ones, and each count and the cache's remainder follow from what the sweep does to one slot. -/
theorem setDay : Obligations.SetDay := by
  unfold Obligations.SetDay
  refine ⟨?_, dayState_iff⟩
  rintro h rest _ s ha rfl
  obtain ⟨_, hf, _, _⟩ := id ha
  rw [exec_setDay ha]
  refine ⟨fun hback => ?_, fun hle hc => ?_, fun he hc => ?_, fun hlt hc => ?_⟩
  · rw [← finish_priorDay hf rfl]
    exact congrArg _ (if_pos hback)
  · rw [← finish_priorDay hf rfl]
    exact congrArg _ ((if_neg hle.not_gt).trans (if_pos ((committingDirectory_iff s).mpr hc)))
  · rw [runSetDay_of_not_back (by rw [he]; exact lt_irrefl _) hc, if_pos he, finish_days hf rfl, he,
      List.append_assoc]
    rfl
  · obtain ⟨v, hv, heq⟩ := runSetDay_of_later hf hlt hc
    refine ⟨v, _, _, congrArg _ heq, fun n k hfree => ?_, fun n k i hb hl hi => ?_,
      countBound_eq_length hv.changed, countBound_eq_length hv.left⟩
    · rcases hfree with hb | hl
      · exact hv.of_free (by rw [hb]; rfl) k
      · rw [hv n k, sweepSlot_of_not_live hl, ite_self]
    · rw [hv.of_bound (Option.isSome_iff_ne_none.mpr hb), sweepSlot_of_live hl hi]

end Sys2Proof.Machine
end

section
namespace Sys2Proof.Machine

/-! ## KEY_STAGE at the head (R100) -/

section
variable {h : ServiceRequest} {rest : List ServiceRequest} {s : State} {n : SliceNo} {b : Binding}

/-- LIST_OLDEST and LIST_NEWEST stand at offsets 40 and 41, behind three bytes that stay 0xFF. -/
theorem finish_listFields (hf : s.fifo = h :: rest) {st : Status} (hst : leavesArea st = false)
    {o w : Byte} (ho : oldestGen (s.genList n) = some o) (hw : newestGen (s.genList n) = some w) :
    finish h st (listFields s n) s
      = completedWith h rest st (leading [BitVec.ofNat 8 n.val, 0xFF, 0xFF, 0xFF, o, w]) s := by
  have hslice : putBytes (leading []) 0 [BitVec.ofNat 8 n.val]
      = leading [BitVec.ofNat 8 n.val, 0xFF, 0xFF, 0xFF] := putBytes_leading_append (a := []) (by simp)
  have hold : putBytes (leading [BitVec.ofNat 8 n.val, 0xFF, 0xFF, 0xFF]) 4 [o]
      = leading [BitVec.ofNat 8 n.val, 0xFF, 0xFF, 0xFF, o] := putBytes_leading_append (by simp)
  refine finish_area hf hst ?_
  simp only [listFields, ho, hw, Option.getD_some, fSlice, fOldest, fNewest, List.foldl_cons,
    List.foldl_nil, Nat.sub_self, Nat.reduceSub, hslice, hold]
  exact putBytes_leading_append (a := [BitVec.ofNat 8 n.val, 0xFF, 0xFF, 0xFF, o]) (by simp)

theorem becomeReady_cons (hf : s.fifo = h :: rest) :
    becomeReady s = { s with fifo := { h with phase := .ready } :: rest } := by
  rw [becomeReady, hf]

theorem lowestEmpty_isNone_iff :
    (s.lowestEmpty n).isNone = true ↔ ∀ k, (s.slot n k).state ≠ .empty := by
  simp [State.lowestEmpty, mem_allSlots]

theorem exec_keyStage (ha : Arrived .keyStage h rest s) :
    exec .keyStage s = .next (runKeyStage h s) := congrArg _ (onHead_of_arrived ha _)

/-- The checks of KEY_STAGE on a bound slice. -/
theorem runKeyStage_of_boundTo (hn : BoundTo s (le16 h.cell.bytes 6) n) (hb : s.binding n = some b) :
    runKeyStage h s =
      if b.locked then finish h .locked [fSlice n] s
      else if s.committingSlice n then finish h .busy [fSlice n] s
      else if s.transport.isNone then finish h .noTransport [fSlice n] s
      else if (le16 h.cell.bytes 12).toNat < (le16 h.cell.bytes 10).toNat then
        finish h .malformed [] s
      else if genRefused s n (byteAt h.cell.bytes 8) then finish h .genOrder (listFields s n) s
      else if (s.lowestEmpty n).isNone then finish h .noSlot [fSlice n] s
      else becomeReady s := by
  have hs : s.sliceOf (srvIssuer h.cell.bytes) = some n := sliceOf_of_boundTo hn
  simp only [runKeyStage, hs, lockedSlice_of_binding hb]
  rfl

/-- With the first two checks of KEY_STAGE passed, the transport key is looked for. -/
theorem runKeyStage_of_open (hn : BoundTo s (le16 h.cell.bytes 6) n) (hb : s.binding n = some b)
    (hl : b.locked = false) (hc : ¬ CommittingSlice s n) :
    runKeyStage h s =
      if s.transport.isNone then finish h .noTransport [fSlice n] s
      else if (le16 h.cell.bytes 12).toNat < (le16 h.cell.bytes 10).toNat then
        finish h .malformed [] s
      else if genRefused s n (byteAt h.cell.bytes 8) then finish h .genOrder (listFields s n) s
      else if (s.lowestEmpty n).isNone then finish h .noSlot [fSlice n] s
      else becomeReady s := by
  rw [runKeyStage_of_boundTo hn hb, hl, committingSlice_eq_false hc]
  rfl

/-- With the days in order too, the slots of the slice decide. -/
theorem runKeyStage_of_days (hn : BoundTo s (le16 h.cell.bytes 6) n) (hb : s.binding n = some b)
    (hl : b.locked = false) (hc : ¬ CommittingSlice s n) (ht : s.transport ≠ none)
    (hd : (le16 h.cell.bytes 10).toNat ≤ (le16 h.cell.bytes 12).toNat) :
    runKeyStage h s =
      if genRefused s n (byteAt h.cell.bytes 8) then finish h .genOrder (listFields s n) s
      else if (s.lowestEmpty n).isNone then finish h .noSlot [fSlice n] s
      else becomeReady s := by
  rw [runKeyStage_of_open hn hb hl hc, if_neg (mt Option.isNone_iff_eq_none.mp ht), if_neg hd.not_gt]

theorem keyStage_unbound (ha : Arrived .keyStage h rest s) (hu : Unbound s (le16 h.cell.bytes 6)) :
    exec .keyStage s = .next (completedWith h rest .noIssuer (leading []) s) := by
  obtain ⟨_, hf, _, _⟩ := id ha
  have hs : s.sliceOf (srvIssuer h.cell.bytes) = none := sliceOf_of_unbound hu
  rw [exec_keyStage ha, ← finish_none hf rfl]
  simp only [runKeyStage, hs]

end

/-- Settles O38: each case fixes the outcome of the checks before it, and the last one leaves a ready head. -/
theorem keyStageChecks : Obligations.KeyStageChecks := by
  unfold Obligations.KeyStageChecks
  rintro h rest _ s ha rfl
  obtain ⟨_, hf, _, _⟩ := id ha
  refine ⟨keyStage_unbound ha, fun n b hn hb => ?_⟩
  rw [exec_keyStage ha]
  refine ⟨fun hl => ?_, fun hl hbusy => ?_, fun hl hc => ⟨fun ht => ?_, fun ht => ⟨fun hd => ?_,
    fun hd => ?_⟩⟩⟩
  · rw [runKeyStage_of_boundTo hn hb, if_pos hl, finish_slice hf rfl]
  · rw [runKeyStage_of_boundTo hn hb, hl, if_neg Bool.false_ne_true,
      if_pos ((committingSlice_iff s n).mpr hbusy), finish_slice hf rfl]
  · rw [runKeyStage_of_open hn hb hl hc, if_pos (Option.isNone_iff_eq_none.mpr ht), finish_slice hf rfl]
  · rw [runKeyStage_of_open hn hb hl hc, if_neg (mt Option.isNone_iff_eq_none.mp ht), if_pos hd,
      finish_asWritten hf rfl]
  · rw [runKeyStage_of_days hn hb hl hc ht hd]
    refine ⟨fun o w ho hw hg => ?_, fun hg => ⟨fun hall => ?_, fun ⟨k, hk⟩ => ?_⟩⟩
    · rw [if_pos hg, finish_listFields hf rfl ho hw]
    · rw [hg, if_neg Bool.false_ne_true, if_pos (lowestEmpty_isNone_iff.mpr hall), finish_slice hf rfl]
    · rw [hg, if_neg Bool.false_ne_true, if_neg fun hnone => lowestEmpty_isNone_iff.mp hnone k hk,
        becomeReady_cons hf]

end Sys2Proof.Machine
end

section
namespace Sys2Proof.Machine

/-! ## TRANSPORT_REPLACE (R93, R109, R110) -/

section
variable {s : State} {e : EngineNo} {w : ServiceWork} {h : ServiceRequest} {rest : List ServiceRequest}

theorem exec_transportReplace (ha : Arrived .transportReplace h rest s) :
    exec .transportReplace s = .next (runTransportReplace h s) := congrArg _ (onHead_of_arrived ha _)

/-- With a transport key present, only a commit of the directory holds the request back. -/
theorem runTransportReplace_of_transport (ht : s.transport ≠ none) :
    runTransportReplace h s =
      if s.committingDirectory then finish h .busy [] s else becomeReady s :=
  if_neg (mt Option.isNone_iff_eq_none.mp ht)

/-- An unwrap that ends ahead of GT runs GT on, frees the engine and completes the head. -/
theorem exec_unwrap_of_ahead (he : s.engine e = some (.service w))
    (hgt : 0 ≤ (w.workEnd - s.gt).toInt) :
    exec (.serviceUnwrapComplete e) s = .next (completeUnwrap w
      { s with gt := w.workEnd, engines := s.engines.set e none }) := by
  have hw : s.serviceAt e = some w := by rw [State.serviceAt, he]
  show execServiceUnwrapComplete e s = _
  simp only [execServiceUnwrapComplete, hw, runTo_of_ahead s w.workEnd hgt, State.setEngine]

theorem completeUnwrap_of_replace (hf : s.fifo = h :: rest) (hp : h.phase = .inEngine)
    (hk : h.kind = .transportReplace) :
    completeUnwrap w s = completeReplace h (candidateKey w) (kcvGood w) s := by
  simp only [completeUnwrap, hf, hp, hk, if_true]

/-- A good KCV replaces the transport key and sets the directory's mark. -/
theorem completeReplace_good (hf : s.fifo = h :: rest) (key : Bytes) :
    completeReplace h key true s = completedWith h rest .ok (leading [])
      { s with
        dirDirty := true
        transport := some { key := key, kcv := bytesAt h.cell.bytes 14 3 } } :=
  finish_none (s := markDirectoryDirty { s with transport := some { key := key, kcv := _ } }) hf rfl

/-- A KCV that differs changes nothing. -/
theorem completeReplace_bad (hf : s.fifo = h :: rest) (key : Bytes) :
    completeReplace h key false s = completedWith h rest .wrapCheck (leading []) s :=
  finish_none hf rfl

end

/-- Settles O43: each case fixes the outcome of the checks before it, and the completion of the engine is that
of the head in the state with GT run on and the engine free. -/
theorem transportReplace : Obligations.TransportReplace := by
  unfold Obligations.TransportReplace
  refine fun h rest s => ⟨fun ha => ?_, ?_⟩
  · obtain ⟨_, hf, _, _⟩ := id ha
    rw [exec_transportReplace ha]
    refine ⟨fun ht => ?_, fun ht hc => ?_, fun ht hc => ?_⟩
    · rw [← finish_none hf rfl]
      exact congrArg _ (if_pos (Option.isNone_iff_eq_none.mpr ht))
    · rw [runTransportReplace_of_transport ht, if_pos ((committingDirectory_iff s).mpr hc),
        finish_none hf rfl]
    · rw [runTransportReplace_of_transport ht, committingDirectory_eq_false hc,
        if_neg Bool.false_ne_true, becomeReady_cons hf]
  · rintro e w _ he hf hp hk hgt rfl
    rw [exec_unwrap_of_ahead he hgt, completeUnwrap_of_replace
      (s := { s with gt := w.workEnd, engines := s.engines.set e none }) hf hp hk]
    refine ⟨fun hbad => ?_, fun hgood => ?_⟩
    · rw [Bool.eq_false_iff.mpr (mt (kcvGood_iff w).mp hbad)]
      exact congrArg _ (completeReplace_bad
        (s := { s with gt := w.workEnd, engines := s.engines.set e none }) hf _)
    · rw [(kcvGood_iff w).mpr hgood]
      exact congrArg _ (completeReplace_good
        (s := { s with gt := w.workEnd, engines := s.engines.set e none }) hf _)

end Sys2Proof.Machine
end

section
namespace Sys2Proof.Machine

/-! ## The memories and the zeroize in flight stand -/

/-- From `s` to `t` the two memories and the zeroize in flight, if there is one, stand. -/
structure ArrayStands (s t : State) : Prop where
  nvm : t.nvm = s.nvm
  hostMem : t.hostMem = s.hostMem
  zeroize : t.zeroizeOp = s.zeroizeOp

theorem ArrayStands.of_fields {s t : State} (hn : t.nvm = s.nvm) (hh : t.hostMem = s.hostMem)
    (ho : t.nvmOp = s.nvmOp) : ArrayStands s t := ⟨hn, hh, zeroizeOp_congr ho⟩

theorem ArrayStands.refl (s : State) : ArrayStands s s := ⟨rfl, rfl, rfl⟩

/-- Transitivity with the later part first. -/
theorem ArrayStands.after {s t u : State} (g : ArrayStands t u) (h : ArrayStands s t) :
    ArrayStands s u := ⟨g.nvm.trans h.nvm, g.hostMem.trans h.hostMem, g.zeroize.trans h.zeroize⟩

/-! ### Shared operations -/

theorem runTo_array (s : State) (t : Word) : ArrayStands s (s.runTo t) := .of_fields rfl rfl rfl

theorem releaseCells_array (l : LaneNo) (n : Nat) (s : State) : ArrayStands s (releaseCells l n s) := by
  rw [releaseCells_frame]; exact .of_fields rfl rfl rfl

theorem makeEntry_array (e : ReturnEntry) (s : State) : ArrayStands s (makeEntry e s) := by
  rw [makeEntry_frame]; exact .of_fields rfl rfl rfl

theorem finish_array (h : ServiceRequest) (st : Status) (fields : List ResultField) (s : State) :
    ArrayStands s (finish h st fields s) := by
  rw [finish_frame]; exact .of_fields rfl rfl rfl

theorem raiseReports_array (rs : List Report) (s : State) : ArrayStands s (raiseReports rs s) := by
  rw [raiseReports_frame]; exact .of_fields rfl rfl rfl

theorem raiseReport_array (r : Report) (s : State) : ArrayStands s (raiseReport r s) :=
  raiseReports_array [r] s

theorem haltLane_array (l : LaneNo) (s : State) : ArrayStands s (haltLane l s) := by
  rw [haltLane_frame]; exact .of_fields rfl rfl rfl

theorem haltIfLive_array (l : LaneNo) (s : State) : ArrayStands s (haltIfLive l s) := by
  rcases haltIfLive_cases l s with h | ⟨_, h⟩ <;> rw [h]
  · exact .refl s
  · exact haltLane_array l s

theorem drainLanes_array (ls : List LaneNo) (s : State) : ArrayStands s (drainLanes ls s) := by
  rw [drainLanes_frame]; exact .of_fields rfl rfl rfl

theorem raiseLaneNotice_array (l : LaneNo) (s : State) : ArrayStands s (raiseLaneNotice l s) := by
  rw [raiseLaneNotice_frame]; exact .of_fields rfl rfl rfl

theorem markSliceDirty_array (n : SliceNo) (s : State) : ArrayStands s (markSliceDirty n s) :=
  ⟨rfl, rfl, remarkSlice_zeroizeOp (s := s) (n := n) rfl⟩

theorem makeFaulty_array (n : SliceNo) (k : SlotNo) (s : State) : ArrayStands s (makeFaulty n k s) :=
  .after (markSliceDirty_array n _) (.of_fields rfl rfl rfl)

/-! ### Register writes (R157 to R167) -/

theorem softResetRequest_array (s : State) : ArrayStands s (softResetRequest s) := by
  unfold softResetRequest
  split_ifs
  · exact ⟨rfl, rfl, dropCellRef_zeroizeOp (s := s) rfl⟩
  · exact .of_fields rfl rfl rfl

theorem startRequest_array (s : State) : ArrayStands s (startRequest s) := by
  unfold startRequest
  repeat' split
  all_goals exact .of_fields rfl rfl rfl

theorem endStopping_array (s : State) : ArrayStands s (endStopping s) := by
  unfold endStopping
  split_ifs <;> exact .of_fields rfl rfl rfl

theorem stopRequest_array (s : State) : ArrayStands s (stopRequest s) := by
  have hdrain := drainLanes_array allLanes s
  unfold stopRequest
  generalize drainLanes allLanes s = u at hdrain ⊢
  split_ifs
  · exact .after (endStopping_array _) ⟨hdrain.nvm, hdrain.hostMem, hdrain.zeroize⟩
  · exact .of_fields rfl rfl rfl

theorem controlWrite_array (w : Word) (s : State) : ArrayStands s (controlWrite w s) := by
  have hlock : ArrayStands s (if w.getLsbD 3 then { s with lock := true } else s) := by
    split_ifs <;> exact .of_fields rfl rfl rfl
  unfold controlWrite
  split
  · exact softResetRequest_array s
  · dsimp only
    split
    · exact .after (startRequest_array _) hlock
    · split
      · exact .after (stopRequest_array _) hlock
      · exact hlock

theorem stationBaseWrite_array (half : StationHalf) (v : Word) (s : State) :
    ArrayStands s (stationBaseWrite half v s) := by
  unfold stationBaseWrite
  repeat' split
  all_goals exact .of_fields rfl rfl rfl

theorem postWrite_array (v : Word) (s : State) : ArrayStands s (postWrite v s) := by
  unfold postWrite
  split_ifs <;> exact .of_fields rfl rfl rfl

theorem registerWrite_array (offset width : Nat) (v : Word) (s : State) :
    ArrayStands s (registerWrite offset width v s) := by
  unfold registerWrite
  split_ifs
  · split
    · exact controlWrite_array v s
    · exact stationBaseWrite_array .lo v s
    · exact stationBaseWrite_array .hi v s
    · exact postWrite_array v s
    all_goals exact .of_fields rfl rfl rfl
  · exact .of_fields rfl rfl rfl

/-! ### Bus reads and takes (R1, R9 to R18, R29) -/

theorem execStationRecordReadIssue_array (s : State) :
    Answers (ArrayStands s) (execStationRecordReadIssue s) := by
  unfold execStationRecordReadIssue
  repeat' split
  all_goals exact .next (.of_fields rfl rfl rfl)

theorem endDiscarded_array (r : ReadEnd) (l : Option LaneNo) (s : State) :
    ArrayStands s (endDiscarded r l s) := by
  unfold endDiscarded
  split
  · exact raiseReport_array _ s
  · exact .of_fields rfl rfl rfl

theorem endStart_array (r : ReadEnd) (s : State) : ArrayStands s (endStart r s) := by
  unfold endStart
  split
  · exact .after (raiseReport_array _ _) (.of_fields rfl rfl rfl)
  · split_ifs <;> exact .of_fields rfl rfl rfl

theorem execStationRecordReadEnd_array (r : ReadEnd) (s : State) :
    Answers (ArrayStands s) (execStationRecordReadEnd r s) := by
  unfold execStationRecordReadEnd
  split
  · refine .next ?_
    split_ifs
    · exact .after (endDiscarded_array _ _ _) (.of_fields rfl rfl rfl)
    · exact .after (endStart_array _ _) (.of_fields rfl rfl rfl)
  all_goals exact .next (.refl s)

theorem execCellReadIssue_array (s : State) : Answers (ArrayStands s) (execCellReadIssue s) := by
  unfold execCellReadIssue
  split <;> exact .next (.of_fields rfl rfl rfl)

theorem takeToQueue_array (l : LaneNo) (e : ReturnEntry) (s : State) :
    ArrayStands s (takeToQueue l e s) :=
  .after (makeEntry_array e _) (.of_fields rfl rfl rfl)

theorem takeExt_array (l : LaneNo) (c : TakenCell) (s : State) : ArrayStands s (takeExt l c s) := by
  unfold takeExt
  split_ifs
  · exact .of_fields rfl rfl rfl
  · exact takeToQueue_array _ _ s

theorem queueRequest_array (r : PassRequest) (s : State) : ArrayStands s (queueRequest r s) := by
  unfold queueRequest
  split_ifs
  · exact makeEntry_array _ s
  · exact .of_fields rfl rfl rfl

theorem takePass_array (l : LaneNo) (c : TakenCell) (take : Word) (s : State) :
    ArrayStands s (takePass l c take s) := by
  unfold takePass
  dsimp only
  split_ifs
  · exact takeToQueue_array _ _ s
  · exact .after (queueRequest_array _ _) (.of_fields rfl rfl rfl)

theorem takeService_array (l : LaneNo) (c : TakenCell) (kind : ServiceKind) (take : Word) (s : State) :
    ArrayStands s (takeService l c kind take s) := by
  unfold takeService
  split_ifs
  · exact takeToQueue_array _ _ s
  · exact .of_fields rfl rfl rfl
  · exact takeToQueue_array _ _ s

theorem takeCell_array (l : LaneNo) (c : TakenCell) (s : State) : ArrayStands s (takeCell l c s) := by
  unfold takeCell
  split_ifs
  · exact .after (takePass_array _ _ _ _) (.of_fields rfl rfl rfl)
  · exact .after (takeExt_array _ _ _) (.of_fields rfl rfl rfl)
  · split
    · exact .after (takeService_array _ _ _ _ _) (.of_fields rfl rfl rfl)
    · exact .after (takeToQueue_array _ _ _) (.of_fields rfl rfl rfl)

theorem scanCell_array (l : LaneNo) (pos : Nat) (b : Bytes) (s : State) :
    ArrayStands s (scanCell l pos b s) := by
  unfold scanCell
  split_ifs
  · exact takeCell_array _ _ s
  · exact .of_fields rfl rfl rfl

theorem endCellRead_array (x : CellRead) (r : ReadEnd) (s : State) :
    ArrayStands s (endCellRead x r s) := by
  unfold endCellRead
  split_ifs
  · exact endDiscarded_array _ _ s
  · split
    · exact .of_fields rfl rfl rfl
    · exact .after (raiseReport_array _ _) (haltLane_array _ s)
  · split
    · exact .of_fields rfl rfl rfl
    · exact raiseReport_array _ s
  · split
    · exact scanCell_array _ _ _ s
    · exact .after (raiseReport_array _ _) (haltLane_array _ s)

theorem execCellReadEnd_array (r : ReadEnd) (s : State) : Answers (ArrayStands s) (execCellReadEnd r s) := by
  unfold execCellReadEnd
  split
  · exact .next (.after (endCellRead_array _ _ _) (.of_fields rfl rfl rfl))
  all_goals exact .next (.refl s)

theorem execDeadlineExpiry_array (l : LaneNo) (take : Word) (s : State) :
    Answers (ArrayStands s) (execDeadlineExpiry l take s) := by
  unfold execDeadlineExpiry
  split_ifs
  · exact .next (.refl s)
  · split
    · exact .next (.refl s)
    · exact .next (.after (makeEntry_array _ _) (.of_fields rfl rfl rfl))

/-! ### Dispatch and engines (R33, R57 to R65) -/

theorem findKey_array (s : State) (r : PassRequest) : ArrayStands s (findKey s r).state := by
  unfold findKey
  split
  · exact .of_fields rfl rfl rfl
  · split
    · exact .of_fields rfl rfl rfl
    · unfold masterRead
      split
      · exact .of_fields rfl rfl rfl
      · exact .of_fields rfl rfl rfl
      · exact makeFaulty_array _ _ s

theorem readEvidence_array (lane : LaneNo) (fuel : Nat) (s : State) :
    ArrayStands s (readEvidence lane fuel s).state := by
  induction fuel generalizing s with
  | zero => exact .of_fields rfl rfl rfl
  | succ fuel ih =>
    unfold readEvidence
    split
    · exact .of_fields rfl rfl rfl
    · split
      · exact .of_fields rfl rfl rfl
      · exact .of_fields rfl rfl rfl
      · exact .after (ih _) (makeFaulty_array 0 _ s)

theorem decideEvidence_array (s : State) (r : PassRequest) : ArrayStands s (decideEvidence s r).state := by
  unfold decideEvidence
  split
  · exact readEvidence_array _ _ s
  · exact .of_fields rfl rfl rfl

theorem runRequest_array (e : EngineNo) (w : PassWork) (s : State) :
    ArrayStands s (runRequest e w s) := by
  have hspend : ArrayStands s (if w.serial.isSome then spendSerial s else s) := by
    unfold spendSerial
    split_ifs <;> exact .of_fields rfl rfl rfl
  unfold runRequest
  dsimp only
  split
  · exact .after (makeEntry_array _ _) hspend
  · exact ⟨hspend.nvm, hspend.hostMem, hspend.zeroize⟩

theorem dispatchRequest_array (e : EngineNo) (r : PassRequest) (s : State) :
    ArrayStands s (dispatchRequest e r s) := by
  have hkey : ArrayStands s (decideEvidence (findKey (unqueue r s) r).state r).state :=
    .after (decideEvidence_array _ r) (.after (findKey_array _ r) (.of_fields rfl rfl rfl))
  unfold dispatchRequest
  dsimp only
  refine .after (raiseReports_array _ _) ?_
  split
  · exact .after (makeEntry_array _ _) hkey
  · exact .after (runRequest_array _ _ _) hkey

theorem execDispatch_array (s : State) : Answers (ArrayStands s) (execDispatch s) := by
  unfold execDispatch
  split
  · split
    · exact .next (dispatchRequest_array _ _ s)
    · split
      · split_ifs <;> exact .next (.of_fields rfl rfl rfl)
      · exact .next (.refl s)
  · exact .next (.refl s)

theorem nextStage_array (e : EngineNo) (w : PassWork) (s : State) : ArrayStands s (nextStage e w s) := by
  unfold nextStage
  split
  · exact .after (makeEntry_array _ _) (.of_fields rfl rfl rfl)
  · exact .of_fields rfl rfl rfl

theorem makeOffer_array (w : PassWork) (keys : KeyMaterial) (s : State) :
    ArrayStands s (makeOffer w keys s) := by
  unfold makeOffer cacheOffer
  repeat' split
  all_goals exact .of_fields rfl rfl rfl

theorem execDeriveComplete_array (e : EngineNo) (s : State) :
    Answers (ArrayStands s) (execDeriveComplete e s) := by
  unfold execDeriveComplete
  split
  · exact .next (.refl s)
  · exact .next (.after (nextStage_array _ _ _) (.after (makeOffer_array _ _ _) (.of_fields rfl rfl rfl)))

theorem execVerifyComplete_array (e : EngineNo) (s : State) :
    Answers (ArrayStands s) (execVerifyComplete e s) := by
  unfold execVerifyComplete
  split
  · exact .next (.refl s)
  · exact .next (.after (nextStage_array _ _ _) (.of_fields rfl rfl rfl))

theorem execWriteComplete_array (e : EngineNo) (s : State) :
    Answers (ArrayStands s) (execWriteComplete e s) := by
  unfold execWriteComplete
  split
  · exact .next (.refl s)
  · exact .next (.after (nextStage_array _ _ _) (.of_fields rfl rfl rfl))

theorem execEvidenceComplete_array (e : EngineNo) (s : State) :
    Answers (ArrayStands s) (execEvidenceComplete e s) := by
  unfold execEvidenceComplete
  split
  · exact .next (.refl s)
  · exact .next (.after (nextStage_array _ _ _) (.of_fields rfl rfl rfl))

/-! ### Service requests but COMMIT (Chapter 5) -/

theorem runIssuerAdd_array (h : ServiceRequest) (s : State) : ArrayStands s (runIssuerAdd h s) := by
  unfold runIssuerAdd
  dsimp only
  repeat' split
  all_goals exact .after (finish_array _ _ _ _) (.of_fields rfl rfl rfl)

theorem runIssuerRemove_array (h : ServiceRequest) (s : State) :
    ArrayStands s (runIssuerRemove h s) := by
  unfold runIssuerRemove
  dsimp only
  repeat' split
  all_goals exact .after (finish_array _ _ _ _) (.of_fields rfl rfl rfl)

theorem runIssuerLock_array (h : ServiceRequest) (s : State) : ArrayStands s (runIssuerLock h s) := by
  unfold runIssuerLock
  split <;> exact .after (finish_array _ _ _ _) (.of_fields rfl rfl rfl)

theorem runKeyStage_array (h : ServiceRequest) (s : State) : ArrayStands s (runKeyStage h s) := by
  unfold runKeyStage
  dsimp only
  split
  · exact finish_array _ _ _ s
  · split_ifs
    on_goal 7 => exact .of_fields rfl rfl rfl
    all_goals exact finish_array _ _ _ s

theorem runKeyRevoke_array (h : ServiceRequest) (s : State) : ArrayStands s (runKeyRevoke h s) := by
  unfold runKeyRevoke
  dsimp only
  split
  · exact finish_array _ _ _ s
  · split_ifs
    · exact finish_array _ _ _ s
    · exact finish_array _ _ _ s
    · split
      · exact finish_array _ _ _ s
      · refine .after (finish_array _ _ _ _) ?_
        split_ifs
        · exact .after (markSliceDirty_array _ _) (.of_fields rfl rfl rfl)
        · exact .of_fields rfl rfl rfl

theorem eraseMatched_array (h : ServiceRequest) (n : SliceNo) (k : SlotNo) (s : State) :
    ArrayStands s (eraseMatched h n k s) := by
  unfold eraseMatched
  dsimp only
  split
  · exact finish_array _ _ _ s
  · exact finish_array _ _ _ s
  all_goals exact .after (finish_array _ _ _ _) (.after (markSliceDirty_array n _) (.of_fields rfl rfl rfl))

theorem runKeyErase_array (h : ServiceRequest) (s : State) : ArrayStands s (runKeyErase h s) := by
  unfold runKeyErase
  dsimp only
  split
  · exact finish_array _ _ _ s
  · split_ifs
    · exact finish_array _ _ _ s
    · exact finish_array _ _ _ s
    · split
      · exact eraseMatched_array h _ _ s
      · split
        · exact .after (finish_array _ _ _ _) (.after (markSliceDirty_array _ _) (.of_fields rfl rfl rfl))
        · exact finish_array _ _ _ s

theorem runSetDay_array (h : ServiceRequest) (s : State) : ArrayStands s (runSetDay h s) := by
  have hsweep (d : Half) : ArrayStands s (markDirectoryDirty (daySweep d s)) := by
    unfold daySweep markDirectoryDirty
    exact .of_fields rfl rfl rfl
  unfold runSetDay
  dsimp only
  split
  · exact finish_array _ _ _ s
  · split
    · exact finish_array _ _ _ s
    · split
      · exact finish_array _ _ _ s
      · exact .after (finish_array _ _ _ _) (hsweep _)

theorem runTransportReplace_array (h : ServiceRequest) (s : State) :
    ArrayStands s (runTransportReplace h s) := by
  unfold runTransportReplace
  split_ifs
  · exact finish_array _ _ _ s
  · exact finish_array _ _ _ s
  · exact .of_fields rfl rfl rfl

theorem runLaneStop_array (h : ServiceRequest) (s : State) : ArrayStands s (runLaneStop h s) := by
  unfold runLaneStop
  dsimp only
  split_ifs
  · exact .after (makeEntry_array _ _) (.of_fields rfl rfl rfl)
  all_goals exact finish_array _ _ _ s

theorem runLaneResume_array (h : ServiceRequest) (s : State) : ArrayStands s (runLaneResume h s) := by
  unfold runLaneResume
  dsimp only
  split_ifs
  all_goals exact .after (finish_array _ _ _ _) (.of_fields rfl rfl rfl)

theorem completeStage_array (h : ServiceRequest) (key : Bytes) (good : Bool) (s : State) :
    ArrayStands s (completeStage h key good s) := by
  unfold completeStage
  split
  · exact finish_array _ _ _ s
  · split
    · exact finish_array _ _ _ s
    · split
      · exact .after (finish_array _ _ _ _) (.after (markSliceDirty_array _ _) (.of_fields rfl rfl rfl))
      · exact finish_array _ _ _ s

theorem completeReplace_array (h : ServiceRequest) (key : Bytes) (good : Bool) (s : State) :
    ArrayStands s (completeReplace h key good s) := by
  unfold completeReplace
  split <;> exact .after (finish_array _ _ _ _) (.of_fields rfl rfl rfl)

theorem completeUnwrap_array (w : ServiceWork) (s : State) : ArrayStands s (completeUnwrap w s) := by
  unfold completeUnwrap
  split
  · exact .of_fields rfl rfl rfl
  · split_ifs
    · split
      · exact completeStage_array _ _ _ s
      · exact completeReplace_array _ _ _ s
      all_goals exact .of_fields rfl rfl rfl
    · exact .of_fields rfl rfl rfl

theorem execServiceUnwrapComplete_array (e : EngineNo) (s : State) :
    Answers (ArrayStands s) (execServiceUnwrapComplete e s) := by
  unfold execServiceUnwrapComplete
  split
  · exact .next (.refl s)
  · exact .next (.after (completeUnwrap_array _ _) (.of_fields rfl rfl rfl))

theorem onHead_array (kind : ServiceKind) {f : ServiceRequest → State → State} {s : State}
    (h : ∀ r, ArrayStands s (f r s)) : ArrayStands s (onHead kind f s) := by
  unfold onHead
  split
  · exact h _
  · exact .of_fields rfl rfl rfl

/-! ### The write channel (R20) -/

theorem execWriteChannelIssue_array (s : State) : Answers (ArrayStands s) (execWriteChannelIssue s) := by
  have hnotice (n : Notice) (u : State) : ArrayStands u (issueNotice n u) := by
    unfold issueNotice
    split <;> exact .of_fields rfl rfl rfl
  have hcell (e : ReturnEntry) (c : TakenCell) : ArrayStands s (issueCellWrite e c s) := by
    unfold issueCellWrite
    split <;> exact .of_fields rfl rfl rfl
  unfold execWriteChannelIssue
  split
  · exact .next (.refl s)
  · split
    · exact .next (.after (hnotice _ _) (.of_fields rfl rfl rfl))
    · repeat' split
      on_goal 1 => exact .next (hcell _ _)
      all_goals exact .next (.refl s)

theorem returnCell_array (s : State) : ArrayStands s (returnCell s) := by
  unfold returnCell
  split
  · exact .of_fields rfl rfl rfl
  · split
    · exact .of_fields rfl rfl rfl
    · exact .after (releaseCells_array _ _ _) (.after (raiseLaneNotice_array _ _) (.of_fields rfl rfl rfl))
    · exact .after (releaseCells_array _ _ _) (.of_fields rfl rfl rfl)

theorem failReturnWrite_array (w : BusWrite) (s : State) : ArrayStands s (failReturnWrite w s) := by
  unfold failReturnWrite
  refine .after (raiseReport_array _ _) ?_
  split
  · split_ifs
    · exact haltIfLive_array _ s
    · exact .of_fields rfl rfl rfl
  · exact .of_fields rfl rfl rfl

/-! ### The load (R139 to R141) -/

theorem loadNextSlice_array (last : Option SliceNo) (s : State) :
    ArrayStands s (loadNextSlice last s) := by
  unfold loadNextSlice
  split <;> exact .of_fields rfl rfl rfl

theorem loadNextKey_array (n : SliceNo) (last : Option SlotNo) (s : State) :
    ArrayStands s (loadNextKey n last s) := by
  unfold loadNextKey
  split
  · exact .of_fields rfl rfl rfl
  · exact loadNextSlice_array _ s

theorem execDirectoryImageReadEnd_array (s : State) :
    Answers (ArrayStands s) (execDirectoryImageReadEnd s) := by
  unfold execDirectoryImageReadEnd
  split
  · exact .next (.refl s)
  · next t ht =>
    obtain ⟨_, e, rfl⟩ := loadAt_eq_some ht
    dsimp only
    split <;> exact .next (.after (loadNextSlice_array _ _) (.of_fields rfl rfl rfl))

theorem execSliceImageReadEnd_array (s : State) : Answers (ArrayStands s) (execSliceImageReadEnd s) := by
  have htake (n : SliceNo) (u : State) : ArrayStands u (takeSlice n u) := by
    unfold takeSlice
    split_ifs
    · exact .after (loadNextKey_array _ _ _) (.of_fields rfl rfl rfl)
    · exact .after (loadNextSlice_array _ _) (.of_fields rfl rfl rfl)
  unfold execSliceImageReadEnd
  split
  · split
    · exact .next (.after (htake _ _) (.of_fields rfl rfl rfl))
    all_goals exact .next (.refl s)
  · exact .next (.refl s)

theorem execKcvCheckEnd_array (s : State) : Answers (ArrayStands s) (execKcvCheckEnd s) := by
  have hcheck (n : SliceNo) (k : SlotNo) (u : State) : ArrayStands u (checkKcv n k u) := by
    unfold checkKcv
    refine .after (loadNextKey_array _ _ _) ?_
    split_ifs
    · exact .of_fields rfl rfl rfl
    · exact .after (raiseReport_array _ _) (.of_fields rfl rfl rfl)
  unfold execKcvCheckEnd
  split
  · split
    · exact .next (.after (hcheck _ _ _) (.of_fields rfl rfl rfl))
    all_goals exact .next (.refl s)
  · exact .next (.refl s)

end Sys2Proof.Machine
end

section
namespace Sys2Proof.Machine

/-! ## What a step may write in sectors 0 and 1 (R124, R125, R142) -/

/-- From array `m` to `m'` in canonical form: no bit of the start counter's sector has risen, and of the
option record's sector only the zeroize mark word may differ. -/
structure SafeWrite (m m' : List Host.Cell) : Prop where
  wf : nvmWf m' = true
  counter : ∀ a, 512 ≤ a → a < 1024 → nvmGet m' a &&& nvmGet m a = nvmGet m' a
  option : ∀ a, a < 512 → (a < 8 ∨ 12 ≤ a) → nvmGet m' a = nvmGet m a

section
variable {m m' m'' : List Host.Cell}

theorem SafeWrite.refl (h : nvmWf m = true) : SafeWrite m m :=
  ⟨h, fun _ _ _ => BitVec.and_self, fun _ _ _ => rfl⟩

/-- A bit that has fallen twice has fallen. -/
theorem and_falls_trans {x y z : Byte} (h : y &&& x = y) (g : z &&& y = z) : z &&& x = z := by
  rw [← g, BitVec.and_assoc, h]

theorem SafeWrite.trans (h : SafeWrite m m') (g : SafeWrite m' m'') : SafeWrite m m'' where
  wf := g.wf
  counter a h1 h2 := and_falls_trans (h.counter a h1 h2) (g.counter a h1 h2)
  option a h1 h2 := (g.option a h1 h2).trans (h.option a h1 h2)

/-- A write above sector 1. -/
theorem SafeWrite.of_above (hw : nvmWf m' = true) (h : ∀ a, a < 1024 → nvmGet m' a = nvmGet m a) :
    SafeWrite m m' where
  wf := hw
  counter a _ ha := by rw [h a ha, BitVec.and_self]
  option a ha _ := h a (by omega)

variable (hm : nvmWf m = true)
include hm

theorem eraseSector_safe {sec : Nat} (h : 2 ≤ sec) : SafeWrite m (eraseSector m sec) :=
  .of_above (nvmWf_eraseSector hm sec) fun a ha => by rw [nvmGet_eraseSector hm, if_neg (by omega)]

theorem eraseSectorPart_safe {sec : Nat} (h : 2 ≤ sec) (use : Nat) :
    SafeWrite m (eraseSectorPart m sec use) :=
  .of_above (nvmWf_eraseSectorPart hm sec use) fun a ha =>
    nvmGet_eraseSectorPart_of_ne hm sec use (.inl (by omega))

theorem beginErase_safe {sec : Nat} (h : 2 ≤ sec) : SafeWrite m (beginErase m sec) :=
  .of_above (nvmWf_beginErase hm sec) fun a ha => by
    rw [nvmGet_beginErase hm, if_neg (by simp only [wordAddr, sectorBytes]; omega)]

theorem spoilWordPart_safe {sec : Nat} (h : 2 ≤ sec) (mask : Word) :
    SafeWrite m (spoilWordPart m sec mask) :=
  .of_above (nvmWf_spoilWordPart hm sec mask) fun a ha =>
    nvmGet_spoilWordPart_of_ne hm sec mask (.inl (by omega))

/-! ### Word programs -/

omit hm in
/-- Four bytes joined are the bytes of their word. -/
theorem leBytes32_append (a b c d : Byte) : leBytes32 (a ++ b ++ c ++ d : Word) = [d, c, b, a] := by
  have h0 : (a ++ b ++ c ++ d : Word).extractLsb' 0 8 = d :=
    (BitVec.extractLsb'_append_eq_of_add_le (xhi := a ++ b ++ c) (le_refl 8)).trans (by simp)
  have h1 : (a ++ b ++ c ++ d : Word).extractLsb' 8 8 = c :=
    (BitVec.extractLsb'_append_eq_of_le (xhi := a ++ b ++ c) (le_refl 8)).trans
      ((BitVec.extractLsb'_append_eq_of_add_le (xhi := a ++ b) (le_refl 8)).trans (by simp))
  have h2 : (a ++ b ++ c ++ d : Word).extractLsb' 16 8 = b :=
    (BitVec.extractLsb'_append_eq_of_le (xhi := a ++ b ++ c) (by decide : 8 ≤ 16)).trans
      ((BitVec.extractLsb'_append_eq_of_le (xhi := a ++ b) (le_refl 8)).trans
        ((BitVec.extractLsb'_append_eq_of_add_le (xhi := a) (le_refl 8)).trans (by simp)))
  have h3 : (a ++ b ++ c ++ d : Word).extractLsb' 24 8 = a :=
    (BitVec.extractLsb'_append_eq_of_le (xhi := a ++ b ++ c) (by decide : 8 ≤ 24)).trans
      ((BitVec.extractLsb'_append_eq_of_le (xhi := a ++ b) (by decide : 8 ≤ 16)).trans
        ((BitVec.extractLsb'_append_eq_of_le (xhi := a) (le_refl 8)).trans (by simp)))
  rw [leBytes32, h0, h1, h2, h3]

omit hm in
theorem byteAt_leBytes32_and (w v : Word) (i : Nat) :
    byteAt (leBytes32 (w &&& v)) i = byteAt (leBytes32 w) i &&& byteAt (leBytes32 v) i := by
  unfold byteAt leBytes32
  rcases i with _ | _ | _ | _ | i <;> simp [BitVec.extractLsb'_and]

omit hm in
/-- The bytes of a word of the array are the bytes that make it up. -/
theorem byteAt_nvmWord (m : List Host.Cell) (sec k : Nat) {i : Nat} (hi : i < 4) :
    byteAt (leBytes32 (nvmWord m sec k)) i = nvmGet m (wordAddr sec k + i) := by
  rw [nvmWord, leBytes32_append]
  interval_cases i <;> rfl

/-- A program clears bits only, in every byte of the array. -/
theorem nvmGet_program_falls (sec k : Nat) (v : Word) (a : Nat) :
    nvmGet (nvmSetWord m sec k (nvmWord m sec k &&& v)) a &&& nvmGet m a
      = nvmGet (nvmSetWord m sec k (nvmWord m sec k &&& v)) a := by
  rw [nvmGet_nvmSetWord hm]
  split_ifs with h
  · have hbyte := byteAt_nvmWord m sec k (i := a - wordAddr sec k) (by omega)
    rw [show wordAddr sec k + (a - wordAddr sec k) = a by omega] at hbyte
    rw [byteAt_leBytes32_and, hbyte, BitVec.and_assoc, BitVec.and_comm _ (nvmGet m a), ← BitVec.and_assoc,
      BitVec.and_self]
  · exact BitVec.and_self

/-- A program of any sector but the option record's, or of the zeroize mark word. -/
theorem programWord_safe {sec k : Nat} (h : 1 ≤ sec ∨ (sec = 0 ∧ k = 2)) (v : Word) :
    SafeWrite m (programWord m sec k v) where
  wf := nvmWf_programWord hm sec k v
  counter a _ _ := nvmGet_program_falls hm sec k v a
  option a ha ha' := nvmGet_programWord_of_ne hm sec k v (by omega)

/-- The same cut short or failed: a program of the value and the free mask together. -/
theorem programWordPart_safe {sec k : Nat} (h : 1 ≤ sec ∨ (sec = 0 ∧ k = 2)) (v mask : Word) :
    SafeWrite m (programWordPart m sec k v mask) := programWord_safe hm h (v ||| mask)

end

/-! ## Steps that write the array -/

/-- From `s` to `t` the law of the memories and the range of a zeroize are kept, and the array is written
within the bounds of its first two sectors. -/
def KeepsArray (s t : State) : Prop :=
  MemoryLaw s → ZeroizeRange s → MemoryLaw t ∧ ZeroizeRange t ∧ SafeWrite s.nvm t.nvm

theorem ArrayStands.keeps {s t : State} (h : ArrayStands s t) : KeepsArray s t := fun hm hz => by
  refine ⟨?_, ?_, ?_⟩
  · unfold MemoryLaw
    rwa [h.nvm, h.hostMem]
  · unfold ZeroizeRange
    rwa [h.zeroize]
  · rw [h.nvm]
    exact .refl hm.1

theorem KeepsArray.refl (s : State) : KeepsArray s s := (ArrayStands.refl s).keeps

theorem KeepsArray.trans {s t u : State} (h : KeepsArray s t) (g : KeepsArray t u) : KeepsArray s u := by
  intro hm hz
  obtain ⟨hm, hz, hw⟩ := h hm hz
  obtain ⟨gm, gz, gw⟩ := g hm hz
  exact ⟨gm, gz, hw.trans gw⟩

/-- `KeepsArray.trans` with the later part first. -/
theorem KeepsArray.after {s t u : State} (g : KeepsArray t u) (h : KeepsArray s t) : KeepsArray s u :=
  h.trans g

theorem Answers.keepsArray {s : State} {o : Host.Outcome State Fault Refusal}
    (h : Answers (ArrayStands s) o) : Answers (KeepsArray s) o := h.mono fun _ => ArrayStands.keeps

/-- A write of the array beside which host memory stands. -/
theorem KeepsArray.of_write {s t : State} (hh : t.hostMem = s.hostMem)
    (hz : ZeroizeRange s → ZeroizeRange t)
    (hw : nvmWf s.nvm = true → ZeroizeRange s → SafeWrite s.nvm t.nvm) : KeepsArray s t := fun hm hr =>
  have hs := hw hm.1 hr
  ⟨⟨hs.wf, by rw [hh]; exact hm.2⟩, hz hr, hs⟩

theorem ZeroizeRange.of_zeroizeOp {s t : State} (h : t.zeroizeOp = s.zeroizeOp) (hz : ZeroizeRange s) :
    ZeroizeRange t := by
  unfold ZeroizeRange
  rwa [h]

theorem ZeroizeRange.of_none {t : State} (h : t.nvmOp = none) : ZeroizeRange t := by
  simp [ZeroizeRange, State.zeroizeOp, h]

/-- An operation in flight that is no erase of a zeroize is within the range. -/
theorem ZeroizeRange.of_record {t : State} {o : NvmRecord} (h : t.nvmOp = some o)
    (ho : ∀ sec f, o.op ≠ .zeroize (.erase sec) f) : ZeroizeRange t := by
  rintro r sec f hr
  obtain ⟨op, g, e⟩ := o
  cases op with
  | zeroize st f' =>
    simp only [State.zeroizeOp, h, Option.some.injEq, Prod.mk.injEq] at hr
    exact absurd (by rw [hr.2.1, hr.2.2]) (ho sec f)
  | commit c => simp [State.zeroizeOp, h] at hr
  | startCount k v c => simp [State.zeroizeOp, h] at hr

/-- The array is written, and every other field that the law reads stands. -/
theorem KeepsArray.of_nvm {s t : State} (hh : t.hostMem = s.hostMem) (ho : t.nvmOp = s.nvmOp)
    (hw : nvmWf s.nvm = true → ZeroizeRange s → SafeWrite s.nvm t.nvm) : KeepsArray s t :=
  .of_write hh (.of_zeroizeOp (zeroizeOp_congr ho)) hw

/-- The operation record becomes one of no erase of a zeroize, and the memories stand. -/
theorem KeepsArray.of_record {s t : State} {o : NvmRecord} (hn : t.nvm = s.nvm)
    (hh : t.hostMem = s.hostMem) (h : t.nvmOp = some o)
    (ho : ∀ sec f, o.op ≠ .zeroize (.erase sec) f) : KeepsArray s t :=
  .of_write hh (fun _ => .of_record h ho) fun hm _ => by rw [hn]; exact .refl hm

/-- The operation record is discarded, and the memories stand. -/
theorem KeepsArray.of_none {s t : State} (hn : t.nvm = s.nvm) (hh : t.hostMem = s.hostMem)
    (h : t.nvmOp = none) : KeepsArray s t :=
  .of_write hh (fun _ => .of_none h) fun hm _ => by rw [hn]; exact .refl hm

theorem eraseSector_keepsArray {sec : Nat} (h : 2 ≤ sec) (s : State) :
    KeepsArray s { s with nvm := eraseSector s.nvm sec } := by
  refine .of_nvm rfl rfl fun hm _ => ?_
  dsimp only
  exact eraseSector_safe hm h

theorem eraseSectorPart_keepsArray {sec : Nat} (h : 2 ≤ sec) (s : State) :
    KeepsArray s
      { s with nvm := eraseSectorPart s.nvm sec s.freeIndex, freeIndex := s.freeIndex + 1 } := by
  refine .of_nvm rfl rfl fun hm _ => ?_
  dsimp only
  exact eraseSectorPart_safe hm h _

/-! ### Cold reset and tamper (R135, R153 to R155, R169) -/

/-- The sector of a COMMIT's target lies above the start counter's. -/
theorem targetSector_ge (t : CommitTarget) : 2 ≤ targetSector t := by
  cases t with
  | directory => exact le_rfl
  | slice n _ => exact Nat.le_add_right_of_le (by decide)

/-- An operation in flight cut at its step. -/
theorem cutArray_safe {m : List Host.Cell} (hm : nvmWf m = true) (use : Nat) {op : NvmOp}
    (h : ∀ sec f, op = .zeroize (.erase sec) f → 2 ≤ sec) : SafeWrite m (cutArray m use op) := by
  unfold cutArray
  split
  · next c =>
    have hsec := targetSector_ge c.target
    split
    · exact eraseSectorPart_safe hm hsec use
    · exact programWordPart_safe hm (.inl (by omega)) _ _
    · exact spoilWordPart_safe hm hsec _
  · exact programWordPart_safe hm (.inl le_rfl) _ _
  · exact programWordPart_safe hm (.inr ⟨rfl, rfl⟩) _ _
  · exact eraseSectorPart_safe hm (h _ _ rfl) use
  · exact programWordPart_safe hm (.inr ⟨rfl, rfl⟩) _ _

theorem zeroizeOp_of_erase {s : State} {r : NvmRecord} {sec : Nat} {f : Bool} (h : s.nvmOp = some r)
    (hop : r.op = .zeroize (.erase sec) f) : s.zeroizeOp = some (r, .erase sec, f) := by
  simp only [State.zeroizeOp, h, hop]

theorem cutNvm_safe {s : State} (hm : nvmWf s.nvm = true) (hz : ZeroizeRange s) :
    SafeWrite s.nvm (cutNvm s).nvm := by
  unfold cutNvm
  split
  · exact .refl hm
  · next r hr =>
    exact cutArray_safe hm _ fun sec f hop => (hz r sec f (zeroizeOp_of_erase hr hop)).1

theorem cutNvm_keepsArray (s : State) : KeepsArray s (cutNvm s) := by
  refine .of_write ?_ (fun _ => ?_) cutNvm_safe
  · rw [cutNvm_frame]
  · rw [cutNvm_frame]
    exact .of_none rfl

theorem tamperResponse_keepsArray (s : State) : KeepsArray s (tamperResponse s) := by
  unfold tamperResponse
  split
  · exact (cutNvm_keepsArray s).trans (.of_record rfl rfl rfl nofun)
  · exact ArrayStands.keeps (.of_fields rfl rfl rfl)

theorem tamperAssertion_keepsArray (s : State) : KeepsArray s (tamperAssertion s) := by
  have hr := (raiseReport_array tamperReport s).keeps
  unfold tamperAssertion
  split
  · exact .refl s
  · exact hr
  · split_ifs
    · exact hr
    · exact (tamperResponse_keepsArray _).after hr
  all_goals exact (tamperResponse_keepsArray _).after hr

theorem execTamperAssert_keepsArray (s : State) : Answers (KeepsArray s) (execTamperAssert s) := by
  refine .next ?_
  split_ifs
  · exact .refl s
  · exact (tamperAssertion_keepsArray _).after (ArrayStands.keeps (.of_fields rfl rfl rfl))

theorem execColdReset_keepsArray (s : State) : Answers (KeepsArray s) (execColdReset s) := by
  have h : KeepsArray s (coldResetState s) :=
    (cutNvm_keepsArray s).trans (.of_none rfl (by rw [cutNvm_frame]; rfl) rfl)
  refine .next ?_
  split_ifs
  · exact (tamperAssertion_keepsArray _).after h
  · exact h

/-! ### The write channel (R20) -/

theorem landWrite_keepsArray (w : BusWrite) (s : State) : KeepsArray s (landWrite w s) := fun hm hz =>
  ⟨⟨hm.1, memSorted_hostPutBytes hm.2 _ _⟩, hz, .refl hm.1⟩

theorem execReturnFirstWriteEnd_keepsArray (r : BusEnd) (s : State) :
    Answers (KeepsArray s) (execReturnFirstWriteEnd r s) := by
  unfold execReturnFirstWriteEnd
  split
  · split
    · split
      · refine .next ?_
        split
        · exact .after (ArrayStands.keeps (.of_fields rfl rfl rfl)) (landWrite_keepsArray _ s)
        · exact landWrite_keepsArray _ s
      · exact .next (ArrayStands.keeps (.after (failReturnWrite_array _ _) (.of_fields rfl rfl rfl)))
    · exact .next (.refl s)
  · exact .next (.refl s)

theorem execReturnOwnWriteEnd_keepsArray (r : BusEnd) (s : State) :
    Answers (KeepsArray s) (execReturnOwnWriteEnd r s) := by
  unfold execReturnOwnWriteEnd
  split
  · split
    · split
      · refine .next ?_
        split
        · exact .after (returnCell_array _).keeps (landWrite_keepsArray _ s)
        · exact landWrite_keepsArray _ s
      · exact .next (ArrayStands.keeps (.after (failReturnWrite_array _ _) (.of_fields rfl rfl rfl)))
    · exact .next (.refl s)
  · exact .next (.refl s)

theorem endNoticeWrite_keepsArray (w : BusWrite) (r : BusEnd) (s : State) :
    KeepsArray s (endNoticeWrite w r s) := by
  unfold endNoticeWrite
  split
  · exact landWrite_keepsArray w s
  · exact ArrayStands.keeps (.after (raiseReport_array _ _) (.of_fields rfl rfl rfl))

theorem execNoticeWriteEnd_keepsArray (r : BusEnd) (s : State) :
    Answers (KeepsArray s) (execNoticeWriteEnd r s) := by
  unfold execNoticeWriteEnd
  split
  · split_ifs
    · exact .next (endNoticeWrite_keepsArray _ r s)
    · exact .next (.refl s)
  · exact .next (.refl s)

theorem execErrorNoticeWriteEnd_keepsArray (r : BusEnd) (s : State) :
    Answers (KeepsArray s) (execErrorNoticeWriteEnd r s) := by
  unfold execErrorNoticeWriteEnd
  split
  · split_ifs
    · exact .next (endNoticeWrite_keepsArray _ r s)
    · exact .next (.refl s)
  · exact .next (.refl s)

/-! ### COMMIT (R128 to R133) -/

theorem snapshotReads_array (lane : LaneNo) (n : SliceNo) (ks : List SlotNo) (s : State) :
    ArrayStands s (snapshotReads lane n ks s).1 := by
  induction ks generalizing s with
  | nil => exact .refl s
  | cons k ks ih =>
    unfold snapshotReads
    split
    · split
      · exact ih s
      · exact ih s
      · exact .after (ih _) (makeFaulty_array n k s)
    · exact ih s

theorem snapshotState_array (lane : LaneNo) (t : CommitTarget) (s : State) :
    ArrayStands s (snapshotState lane t s).1 := by
  cases t with
  | directory => exact .refl s
  | slice n _ => exact snapshotReads_array lane n _ s

theorem startCommit_keepsArray (h : ServiceRequest) (t : CommitTarget) (s : State) :
    KeepsArray s (startCommit h t s) := by
  unfold startCommit
  refine .after (raiseReports_array _ _).keeps (.after ?_ (snapshotState_array h.lane t s).keeps)
  exact .of_write rfl (fun _ => .of_record rfl nofun) fun hm _ => beginErase_safe hm (targetSector_ge t)

theorem runCommit_keepsArray (h : ServiceRequest) (s : State) : KeepsArray s (runCommit h s) := by
  have hfinish (st : Status) (fields : List ResultField) : KeepsArray s (finish h st fields s) :=
    (finish_array h st fields s).keeps
  have htarget (t : CommitTarget) : KeepsArray s (commitTarget h t s) := by
    unfold commitTarget
    split_ifs
    · exact startCommit_keepsArray h t s
    · exact hfinish _ _
  unfold runCommit
  dsimp only
  split_ifs
  · exact hfinish _ _
  · exact hfinish _ _
  · exact htarget _
  · split
    · exact hfinish _ _
    · exact htarget _

theorem commitStep_keepsArray (r : NvmRecord) (c : CommitOp) (step : CommitStep) (t : Nat) (s : State) :
    KeepsArray s (commitStep r c step t s) := .of_record rfl rfl rfl nofun

theorem execCommitEraseEnd_keepsArray (x : NvmEnd) (s : State) :
    Answers (KeepsArray s) (execCommitEraseEnd x s) := by
  unfold execCommitEraseEnd
  split
  · next r c _ =>
    have hsec := targetSector_ge c.target
    split_ifs
    · cases x with
      | success =>
        exact .next (((runTo_array s _).keeps.trans (eraseSector_keepsArray hsec _)).trans
          (commitStep_keepsArray _ _ _ _ _))
      | failure =>
        exact .next (((runTo_array s _).keeps.trans (eraseSectorPart_keepsArray hsec _)).trans
          (commitStep_keepsArray _ _ _ _ _))
    · exact .next (.refl s)
  · exact .next (.refl s)

theorem commitEntry_array (c : CommitOp) (st : Status) (fields : List ResultField) (s : State) :
    ArrayStands s (commitEntry c st fields s) := by
  unfold commitEntry
  split
  · exact .refl s
  · exact makeEntry_array _ s

theorem discardRecord_keepsArray (s : State) : KeepsArray s (discardRecord s) :=
  .of_none rfl rfl rfl

theorem clearMark_array (c : CommitOp) (s : State) : ArrayStands s (clearMark c s) := by
  unfold clearMark
  split_ifs
  · exact .refl s
  · split <;> exact .of_fields rfl rfl rfl

theorem programSucceeds_keepsArray (r : NvmRecord) (c : CommitOp) (k : Nat) (s : State) :
    KeepsArray s (programSucceeds r c k s) := by
  have hprogram : KeepsArray s
      { s with nvm := programWord s.nvm (targetSector c.target) k (c.image.getD k 0) } :=
    .of_nvm rfl rfl fun hm _ => programWord_safe hm (.inl (by have := targetSector_ge c.target; omega)) _
  unfold programSucceeds commitSucceeds
  dsimp only
  split_ifs
  · exact (discardRecord_keepsArray _).after ((commitEntry_array _ _ _ _).after (clearMark_array c _)).keeps
      |>.after hprogram
  · exact hprogram.trans (commitStep_keepsArray _ _ _ _ _)

theorem execCommitWordProgramEnd_keepsArray (x : NvmEnd) (s : State) :
    Answers (KeepsArray s) (execCommitWordProgramEnd x s) := by
  unfold execCommitWordProgramEnd
  split
  · next r c _ =>
    split
    · cases x with
      | success =>
        exact .next (.after (programSucceeds_keepsArray _ _ _ _) (ArrayStands.keeps (.of_fields rfl rfl rfl)))
      | failure =>
        exact .next (.of_write rfl (fun _ => .of_record rfl nofun) fun hm _ =>
          programWordPart_safe hm (.inl (by have := targetSector_ge c.target; omega)) _ _)
    · exact .next (.refl s)
    · exact .next (.refl s)
  · exact .next (.refl s)

theorem spoilArray_keepsArray (x : NvmEnd) (c : CommitOp) (s : State) :
    KeepsArray s (spoilArray x c s) := by
  have hsec := targetSector_ge c.target
  cases x with
  | success => exact .of_nvm rfl rfl fun hm _ => programWord_safe hm (.inl (by omega)) _
  | failure => exact .of_nvm rfl rfl fun hm _ => spoilWordPart_safe hm hsec _

theorem execSpoilProgramEnd_keepsArray (x : NvmEnd) (s : State) :
    Answers (KeepsArray s) (execSpoilProgramEnd x s) := by
  unfold execSpoilProgramEnd
  split
  · split
    · refine .next (.after (discardRecord_keepsArray _)
        (.after ((commitEntry_array _ _ _ _).after (raiseReport_array _ _)).keeps ?_))
      exact (spoilArray_keepsArray _ _ _).after (ArrayStands.keeps (.of_fields rfl rfl rfl))
    · exact .next (.refl s)
    · exact .next (.refl s)
  · exact .next (.refl s)

/-! ### The load (R137, R138) -/

theorem beginZeroizeErase_keepsArray {sec : Nat} (h : 2 ≤ sec ∧ sec ≤ 34) (f : Bool) (g : Word)
    (s : State) : KeepsArray s (beginZeroizeErase sec f g s) :=
  .of_write rfl (fun _ r sec' f' hr => by cases hr; exact h) fun hm _ => beginErase_safe hm h.1

theorem execOptionRecordReadEnd_keepsArray (s : State) :
    Answers (KeepsArray s) (execOptionRecordReadEnd s) := by
  unfold execOptionRecordReadEnd
  split
  · exact .next (.refl s)
  · next t ht =>
    obtain ⟨_, e, rfl⟩ := loadAt_eq_some ht
    refine .next ?_
    split_ifs
    · exact (beginZeroizeErase_keepsArray (by decide) _ _ _).after (ArrayStands.keeps (.of_fields rfl rfl rfl))
    · exact ArrayStands.keeps (.of_fields rfl rfl rfl)

theorem execStartCounterReadEnd_keepsArray (s : State) :
    Answers (KeepsArray s) (execStartCounterReadEnd s) := by
  unfold execStartCounterReadEnd
  split
  · exact .next (.refl s)
  · next t ht =>
    obtain ⟨_, e, rfl⟩ := loadAt_eq_some ht
    dsimp only
    split
    · exact .next (.of_record rfl rfl rfl nofun)
    · exact .next (ArrayStands.keeps (.of_fields rfl rfl rfl))

theorem afterStartCount_array (s : State) : ArrayStands s (afterStartCount s) := by
  unfold afterStartCount
  split_ifs <;> exact .of_fields rfl rfl rfl

theorem execStartCountProgramEnd_keepsArray (x : NvmEnd) (s : State) :
    Answers (KeepsArray s) (execStartCountProgramEnd x s) := by
  unfold execStartCountProgramEnd
  split
  · cases x with
    | success =>
      exact .next (.after (afterStartCount_array _).keeps (.of_write rfl (fun _ => .of_none rfl)
        fun hm _ => programWord_safe hm (.inl le_rfl) _))
    | failure =>
      refine .next (.after ((afterStartCount_array _).after (raiseReport_array _ _)).keeps
        (.of_write rfl (fun _ => .of_none rfl) fun hm _ => ?_))
      exact programWordPart_safe hm (.inl le_rfl) _ _
  · exact .next (.refl s)

/-! ### The zeroize (R142) -/

theorem zeroizeEnds_keepsArray (s : State) : KeepsArray s (zeroizeEnds s) := .of_none rfl rfl rfl

/-- The erases of a zeroize go on to sector 34 at most. -/
theorem afterZeroizeErase_keepsArray {sec : Nat} (h : 2 ≤ sec) (f : Bool) (g : Word) (s : State) :
    KeepsArray s (afterZeroizeErase sec f g s) := by
  unfold afterZeroizeErase
  split_ifs
  · exact beginZeroizeErase_keepsArray ⟨by omega, by omega⟩ f g s
  · exact .of_record rfl rfl rfl nofun
  · exact zeroizeEnds_keepsArray s

theorem execZeroizeMarkProgramEnd_keepsArray (x : NvmEnd) (s : State) :
    Answers (KeepsArray s) (execZeroizeMarkProgramEnd x s) := by
  unfold execZeroizeMarkProgramEnd
  split
  · cases x with
    | success =>
      exact .next (.after (beginZeroizeErase_keepsArray (by decide) _ _ _)
        (.of_nvm rfl rfl fun hm _ => programWord_safe hm (.inr ⟨rfl, rfl⟩) _))
    | failure =>
      exact .next (.after (beginZeroizeErase_keepsArray (by decide) _ _ _) (.after (raiseReport_array _ _).keeps
        (.of_nvm rfl rfl fun hm _ => programWordPart_safe hm (.inr ⟨rfl, rfl⟩) _ _)))
  · exact .next (.refl s)

theorem execZeroizeSectorEraseEnd_keepsArray (x : NvmEnd) (s : State) :
    Answers (KeepsArray s) (execZeroizeSectorEraseEnd x s) := by
  unfold execZeroizeSectorEraseEnd
  split
  · next r sec f hz =>
    have hrun := (runTo_array s r.stepEnd).keeps
    cases x with
    | success =>
      refine .next fun hm hr => ?_
      have hsec := (hr r sec f hz).1
      exact (hrun.trans ((eraseSector_keepsArray hsec _).trans
        (afterZeroizeErase_keepsArray hsec _ _ _))) hm hr
    | failure =>
      refine .next fun hm hr => ?_
      have hsec := (hr r sec f hz).1
      exact (hrun.trans ((eraseSectorPart_keepsArray hsec _).trans
        ((raiseReport_array _ _).keeps.trans (afterZeroizeErase_keepsArray hsec _ _ _)))) hm hr
  · exact .next (.refl s)

theorem execZeroizeFinalMarkEnd_keepsArray (x : NvmEnd) (s : State) :
    Answers (KeepsArray s) (execZeroizeFinalMarkEnd x s) := by
  unfold execZeroizeFinalMarkEnd
  split
  · cases x with
    | success =>
      exact .next (.after (zeroizeEnds_keepsArray _)
        (.of_nvm rfl rfl fun hm _ => programWord_safe hm (.inr ⟨rfl, rfl⟩) _))
    | failure =>
      exact .next (.after (zeroizeEnds_keepsArray _) (.after (raiseReport_array _ _).keeps
        (.of_nvm rfl rfl fun hm _ => programWordPart_safe hm (.inr ⟨rfl, rfl⟩) _ _)))
  · exact .next (.refl s)

/-! ### Every command -/

/-- Every command writes the array within its bounds. -/
theorem exec_keepsArray (c : Instr) (s : State) : Answers (KeepsArray s) (exec c s) := by
  have hhead (kind : ServiceKind) {f : ServiceRequest → State → State}
      (h : ∀ r, ArrayStands s (f r s)) : Answers (KeepsArray s) (.next (onHead kind f s)) :=
    .next (onHead_array kind h).keeps
  cases c with
  | coldReset => exact execColdReset_keepsArray s
  | tamperAssert => exact execTamperAssert_keepsArray s
  | tamperRelease => exact .next (ArrayStands.keeps (.of_fields rfl rfl rfl))
  | start w | stop w | softReset w | lock w => exact .next (controlWrite_array w s).keeps
  | stationBaseWrite half v => exact .next (stationBaseWrite_array half v s).keeps
  | post v => exact .next (postWrite_array v s).keeps
  | noticePendingWrite v | errorFlagsWrite v => exact .next (ArrayStands.keeps (.of_fields rfl rfl rfl))
  | ignoredRegisterWrite o w v => exact .next (registerWrite_array o w v s).keeps
  | stationRecordReadIssue => exact (execStationRecordReadIssue_array s).keepsArray
  | stationRecordReadEnd r => exact (execStationRecordReadEnd_array r s).keepsArray
  | cellReadIssue => exact (execCellReadIssue_array s).keepsArray
  | cellReadEnd r => exact (execCellReadEnd_array r s).keepsArray
  | deadlineExpiry l take => exact (execDeadlineExpiry_array l take s).keepsArray
  | dispatch => exact (execDispatch_array s).keepsArray
  | deriveComplete e => exact (execDeriveComplete_array e s).keepsArray
  | verifyComplete e => exact (execVerifyComplete_array e s).keepsArray
  | writeComplete e => exact (execWriteComplete_array e s).keepsArray
  | evidenceComplete e => exact (execEvidenceComplete_array e s).keepsArray
  | serviceUnwrapComplete e => exact (execServiceUnwrapComplete_array e s).keepsArray
  | issuerAdd => exact hhead _ fun h => runIssuerAdd_array h s
  | issuerRemove => exact hhead _ fun h => runIssuerRemove_array h s
  | issuerLock => exact hhead _ fun h => runIssuerLock_array h s
  | keyStage => exact hhead _ fun h => runKeyStage_array h s
  | keyRevoke => exact hhead _ fun h => runKeyRevoke_array h s
  | keyErase => exact hhead _ fun h => runKeyErase_array h s
  | setDay => exact hhead _ fun h => runSetDay_array h s
  | transportReplace => exact hhead _ fun h => runTransportReplace_array h s
  | commit =>
    refine .next ?_
    rcases onHead_cases .commit runCommit s with h | ⟨h, _, _, _, _, _, hrun⟩
    · rw [h]; exact .refl s
    · rw [hrun]; exact runCommit_keepsArray h s
  | logRead => exact hhead _ fun h => finish_array h _ _ s
  | laneStop => exact hhead _ fun h => runLaneStop_array h s
  | laneResume => exact hhead _ fun h => runLaneResume_array h s
  | writeChannelIssue => exact (execWriteChannelIssue_array s).keepsArray
  | returnFirstWriteEnd r => exact execReturnFirstWriteEnd_keepsArray r s
  | returnOwnWriteEnd r => exact execReturnOwnWriteEnd_keepsArray r s
  | noticeWriteEnd r => exact execNoticeWriteEnd_keepsArray r s
  | errorNoticeWriteEnd r => exact execErrorNoticeWriteEnd_keepsArray r s
  | commitEraseEnd r => exact execCommitEraseEnd_keepsArray r s
  | commitWordProgramEnd r => exact execCommitWordProgramEnd_keepsArray r s
  | spoilProgramEnd r => exact execSpoilProgramEnd_keepsArray r s
  | optionRecordReadEnd => exact execOptionRecordReadEnd_keepsArray s
  | startCounterReadEnd => exact execStartCounterReadEnd_keepsArray s
  | startCountProgramEnd r => exact execStartCountProgramEnd_keepsArray r s
  | directoryImageReadEnd => exact (execDirectoryImageReadEnd_array s).keepsArray
  | sliceImageReadEnd => exact (execSliceImageReadEnd_array s).keepsArray
  | kcvCheckEnd => exact (execKcvCheckEnd_array s).keepsArray
  | zeroizeMarkProgramEnd r => exact execZeroizeMarkProgramEnd_keepsArray r s
  | zeroizeSectorEraseEnd r => exact execZeroizeSectorEraseEnd_keepsArray r s
  | zeroizeFinalMarkEnd r => exact execZeroizeFinalMarkEnd_keepsArray r s
  | keyRamDamage n k d => exact .next (ArrayStands.keeps (.of_fields rfl rfl rfl))

/-- Settles O58: most commands leave the memories, and those that write the array write above sector 1, clear
bits of the start counter's sector, or program the zeroize mark word. -/
theorem arrayLawKept : Obligations.ArrayLawKept := by
  unfold Obligations.ArrayLawKept
  intro s t hm hz hstep
  have hkeeps : KeepsArray s t := by
    unfold step at hstep
    split at hstep
    · cases hstep
      exact ArrayStands.keeps (.of_fields rfl rfl rfl)
    · next c rest _ =>
      have hq : ArrayStands s { s with pending := rest } := .of_fields rfl rfl rfl
      exact hq.keeps.trans (exec_keepsArray c _ t hstep)
  obtain ⟨gm, gz, hw⟩ := hkeeps hm hz
  exact ⟨gm, gz, hw.counter, hw.option⟩

end Sys2Proof.Machine
end

section
namespace Sys2Proof.Machine

/-! ## Cold reset (R169, R135, R153) -/

/-- The slots after reset are those that a clear of them leaves. -/
theorem zeroizeKeys_slices_of_reset {s : State} (h : s.slices = State.reset.slices) :
    (zeroizeKeys s).slices = State.reset.slices := by
  have hcell (n : SliceNo) (k : SlotNo) : (s.slot n k).cleared = Slot.initial := by
    rw [State.slot_congr h, reset_slot]
    rfl
  simp only [zeroizeKeys, hcell]
  apply Vector.ext
  intro i hi
  apply Vector.ext
  intro j hj
  simp [State.reset]

/-- Under TAMPER the reset state takes the ZEROIZE response at GT 0, with nothing left to cut (R153). -/
theorem tamperAssertion_coldResetState (s : State) :
    tamperAssertion (coldResetState s) = { coldResetState s with
      device := .zeroizing, load := none, errorFlags := 0x10
      errorLog := some
        { cls := .tamper, lane := none, slice := none, slot := none, gt := 0, further := 0 }
      nvmOp := some { op := .zeroize .mark false, startGt := 0, stepEnd := 20 } } := by
  have hflags : (recordReport tamperReport (coldResetState s)).errorFlags = 0x10 :=
    show (0 : BitVec 5) ||| flagMask .tamper = 0x10 by decide
  rw [tamperAssertion_responds (.inl rfl), tamperResponse_of_zeroize rfl, zeroizeResponse_eq,
    zeroizeKeys_slices_of_reset (s := recordReport tamperReport (coldResetState s)) rfl,
    cutNvm_of_none rfl, hflags]
  rfl

/-- A cold reset keeps the array as the cut leaves it; under TAMPER the zeroize follows. -/
theorem exec_coldReset (s : State) : exec .coldReset s
    = .next (if s.tamperPin then tamperAssertion (coldResetState s) else coldResetState s) := rfl

/-- The sector that an image's target has. -/
theorem targetSector_eq {t : CommitTarget} {sec : Nat}
    (h : (t = .directory ∧ sec = 2) ∨ ∃ n code, t = .slice n code ∧ sec = 3 + n.val) :
    targetSector t = sec := by
  rcases h with ⟨rfl, rfl⟩ | ⟨n, code, rfl, rfl⟩ <;> rfl

/-- Settles O9: the reset state with the array that the cut leaves, and what each cut step leaves. -/
theorem coldReset : Obligations.ColdReset := by
  unfold Obligations.ColdReset
  refine ⟨fun s => ⟨_, _, cutTo_cutNvm s, fun hp => ?_, fun hp => ?_⟩, fun m use hm =>
    ⟨fun c sec hsec => ?_, fun k v count => ?_, fun f => ⟨?_, ?_, fun sec => ?_⟩⟩⟩
  · rw [exec_coldReset, hp]
    unfold coldResetState
    rw [hp]
    rfl
  · rw [exec_coldReset, hp, if_pos rfl, tamperAssertion_coldResetState]
    unfold coldResetState
    rw [hp]
  · have ht := targetSector_eq hsec
    refine ⟨fun hs => ?_, fun k hs => ?_, fun k hs => ⟨?_, ?_⟩⟩ <;> simp only [cutArray, hs, ht]
    · exact erasePart_eraseSectorPart hm sec use
    · exact programPart_programWordPart hm sec k _ _
    · exact programPart_spoilWordPart hm sec _
    · exact nvmWord_spoilWordPart_ne hm sec _
  · exact programPart_programWordPart hm 1 k v _
  · exact programPart_programWordPart hm 0 2 0 _
  · exact programPart_programWordPart hm 0 2 0 _
  · exact erasePart_eraseSectorPart hm sec use

end Sys2Proof.Machine
end

section
namespace Sys2Proof.Machine

/-! ## Load step 1 (O51) -/

/-- What a begun erase leaves, with the byte addresses written out. -/
theorem nvmGet_beginErase_bytes {m : List Host.Cell} (h : nvmWf m = true) (sec a : Nat) :
    nvmGet (beginErase m sec) a =
      if (512 * sec + 508 ≤ a ∧ a < 512 * sec + 512)
        ∨ (512 * sec + (if sec = 2 then 316 else 284) ≤ a
          ∧ a < 512 * sec + (if sec = 2 then 316 else 284) + 4) then 0xFF
      else nvmGet m a := by
  rw [nvmGet_beginErase h]
  refine if_congr ?_ rfl rfl
  simp only [markWordOf, wordAddr, sectorBytes]
  split <;> omega

theorem takeOption_of_valid {b : Bytes} {action : TamperAction} (hcrc : crc32 (b.take 4) = le32 b 4)
    (hl : 1 ≤ (byteAt b 0).toNat ∧ (byteAt b 0).toNat ≤ 16)
    (hc : 1 ≤ (byteAt b 1).toNat ∧ (byteAt b 1).toNat ≤ 2)
    (ha : (byteAt b 2 = 0x01 ∧ action = .zeroize) ∨ (byteAt b 2 = 0x02 ∧ action = .faultOnly)) :
    takeOption b = { laneLimit := (byteAt b 0).toNat, engineCount := (byteAt b 1).toNat
                     action := action, defaulted := false } := by
  have hact : (if byteAt b 2 = 0x01 then TamperAction.zeroize else .faultOnly) = action := by
    rcases ha with ⟨h2, rfl⟩ | ⟨h2, rfl⟩
    · exact if_pos h2
    · exact if_neg (by rw [h2]; decide)
  have hv : optionValid b = true := by
    have h2 : byteAt b 2 = 0x01 ∨ byteAt b 2 = 0x02 := ha.imp And.left And.left
    simp only [optionValid, Bool.and_eq_true, beq_iff_eq, decide_eq_true_eq, Bool.or_eq_true]
    exact ⟨⟨⟨⟨⟨hcrc, hl.1⟩, hl.2⟩, hc.1⟩, hc.2⟩, h2⟩
  rw [takeOption, if_pos hv, hact]

theorem takeOption_of_invalid {b : Bytes}
    (h : crc32 (b.take 4) ≠ le32 b 4 ∨ (byteAt b 0).toNat = 0 ∨ 16 < (byteAt b 0).toNat
      ∨ (byteAt b 1).toNat = 0 ∨ 2 < (byteAt b 1).toNat
      ∨ (byteAt b 2 ≠ 0x01 ∧ byteAt b 2 ≠ 0x02)) :
    takeOption b = { laneLimit := 1, engineCount := 1, action := .zeroize, defaulted := true } := by
  refine if_neg fun hv => ?_
  simp only [optionValid, Bool.and_eq_true, beq_iff_eq, decide_eq_true_eq, Bool.or_eq_true] at hv
  obtain ⟨⟨⟨⟨⟨hcrc, hl⟩, hl'⟩, hc⟩, hc'⟩, ha⟩ := hv
  rcases h with h | h | h | h | h | ⟨h1, h2⟩
  · exact h hcrc
  · omega
  · omega
  · omega
  · omega
  · exact ha.elim h1 h2

theorem zeroizeMarkSet_iff (b : Bytes) : zeroizeMarkSet b = true ↔ le32 b 8 ≠ 0xFFFFFFFF := bne_iff_ne

/-- The end of load step 1: the option record is taken, and the mark word decides how the load goes on. -/
theorem exec_optionRecordReadEnd {e : Word} {s : State} (hgt : 0 ≤ (e - s.gt).toInt)
    (hload : s.load = some { step := .optionRead, stepEnd := e }) :
    exec .optionRecordReadEnd s = .next
      (if zeroizeMarkSet (readSector s.nvm 0) then
        zeroizeFromLoad (applyOption (takeOption (readSector s.nvm 0)) { s with gt := e })
      else loadNext .counterRead readTime
        (applyOption (takeOption (readSector s.nvm 0)) { s with gt := e })) := by
  change execOptionRecordReadEnd s = _
  rw [execOptionRecordReadEnd, loadAt_of_load hgt hload]

/-- Settles O51: a valid record or its defaults are taken, then the counter is read or the zeroize begins. -/
theorem optionRecordRead : Obligations.OptionRecordRead := by
  unfold Obligations.OptionRecordRead
  intro e b limit count action defaulted u s hload hgt hwf hb hrec hu
  have happly : applyOption (takeOption b) { s with gt := e } = u := by
    rcases hrec with ⟨hcrc, hl, hl', hc, hc', ha, rfl, rfl, rfl⟩ | ⟨hbad, rfl, rfl, rfl, rfl⟩
    · rw [takeOption_of_valid hcrc ⟨hl, hl'⟩ ⟨hc, hc'⟩ ha, hu]; rfl
    · rw [takeOption_of_invalid hbad, hu]; rfl
  have hgt' : u.gt = e := by rw [hu]
  have hnvm : u.nvm = s.nvm := by rw [hu]
  rw [exec_optionRecordReadEnd hgt hload, ← hb, happly]
  refine ⟨fun hm => ?_, fun hm => ⟨beginErase s.nvm 2, ?_, fun a ha => ?_⟩⟩
  · rw [if_neg fun hz => (zeroizeMarkSet_iff b).mp hz hm, loadNext, hgt']
    rfl
  · rw [if_pos ((zeroizeMarkSet_iff b).mpr hm), zeroizeFromLoad, beginZeroizeErase, hgt', hnvm]
    rfl
  · rw [nvmGet_beginErase_bytes hwf, if_neg (by rw [if_pos rfl]; omega)]

end Sys2Proof.Machine
end

section
namespace Sys2Proof.Machine

/-! ## The steps of a zeroize (O54) -/

theorem sectorSlice_eq {sec : Nat} {n : Option SliceNo}
    (h : (sec = 2 ∧ n = none) ∨ ∃ i : SliceNo, sec = 3 + i.val ∧ n = some i) :
    sectorSlice sec = n := by
  rcases h with ⟨rfl, rfl⟩ | ⟨i, rfl, rfl⟩
  · rfl
  · have hi : 3 ≤ 3 + i.val ∧ 3 + i.val - 3 < 32 := by omega
    rw [sectorSlice, dif_pos hi]
    exact congrArg some (Fin.ext (by simp))

section
variable {g e : Word} {s : State} {failed : Bool}

theorem zeroizeOp_of_nvmOp {st : ZeroizeStep}
    (h : s.nvmOp = some { op := .zeroize st failed, startGt := g, stepEnd := e }) :
    s.zeroizeOp = some ({ op := .zeroize st failed, startGt := g, stepEnd := e }, st, failed) := by
  unfold State.zeroizeOp
  rw [h]

variable (hgt : 0 ≤ (e - s.gt).toInt)
include hgt

theorem exec_zeroizeMarkProgramEnd
    (h : s.nvmOp = some { op := .zeroize .mark failed, startGt := g, stepEnd := e }) :
    exec (.zeroizeMarkProgramEnd .success) s =
        .next (beginZeroizeErase 2 false g { s with gt := e, nvm := programWord s.nvm 0 2 0 })
    ∧ exec (.zeroizeMarkProgramEnd .failure) s =
        .next (beginZeroizeErase 2 true g (raiseReport (nvmReport none) { s with
          gt := e, nvm := programWordPart s.nvm 0 2 0 (Config.freeMask s.freeIndex)
          freeIndex := s.freeIndex + 1 })) := by
  change execZeroizeMarkProgramEnd .success s = _ ∧ execZeroizeMarkProgramEnd .failure s = _
  simp only [execZeroizeMarkProgramEnd, zeroizeOp_of_nvmOp h, runTo_of_ahead s e hgt, and_self]

theorem exec_zeroizeSectorEraseEnd {sec : Nat}
    (h : s.nvmOp = some { op := .zeroize (.erase sec) failed, startGt := g, stepEnd := e }) :
    exec (.zeroizeSectorEraseEnd .success) s =
        .next (afterZeroizeErase sec failed g { s with gt := e, nvm := eraseSector s.nvm sec })
    ∧ exec (.zeroizeSectorEraseEnd .failure) s =
        .next (afterZeroizeErase sec failed g (raiseReport (nvmReport (sectorSlice sec)) { s with
          gt := e, nvm := eraseSectorPart s.nvm sec s.freeIndex, freeIndex := s.freeIndex + 1 })) := by
  change execZeroizeSectorEraseEnd .success s = _ ∧ execZeroizeSectorEraseEnd .failure s = _
  simp only [execZeroizeSectorEraseEnd, zeroizeOp_of_nvmOp h, runTo_of_ahead s e hgt, and_self]

theorem exec_zeroizeFinalMarkEnd
    (h : s.nvmOp = some { op := .zeroize .finalMark failed, startGt := g, stepEnd := e }) :
    exec (.zeroizeFinalMarkEnd .success) s =
        .next (zeroizeEnds { s with gt := e, nvm := programWord s.nvm 0 2 0 })
    ∧ exec (.zeroizeFinalMarkEnd .failure) s =
        .next (zeroizeEnds (raiseReport (nvmReport none) { s with
          gt := e, nvm := programWordPart s.nvm 0 2 0 (Config.freeMask s.freeIndex)
          freeIndex := s.freeIndex + 1 })) := by
  change execZeroizeFinalMarkEnd .success s = _ ∧ execZeroizeFinalMarkEnd .failure s = _
  simp only [execZeroizeFinalMarkEnd, zeroizeOp_of_nvmOp h, runTo_of_ahead s e hgt, and_self]

end

theorem raiseReport_nvm (r : Report) (s : State) : (raiseReport r s).nvm = s.nvm := by
  rw [raiseReport_frame]

/-- The erase of the next sector begins at the GT and in the array of the state. -/
theorem beginZeroizeErase_eq {t : State} {m : List Host.Cell} {x : Word} (sec : Nat) (f : Bool) (g : Word)
    (hm : t.nvm = m) (hx : t.gt = x) :
    beginZeroizeErase sec f g t = { t with
      nvm := beginErase m sec
      nvmOp := some { op := .zeroize (.erase sec) f, startGt := g, stepEnd := x + 12000 } } := by
  subst hm hx
  rfl

theorem afterZeroizeErase_of_lt {sec : Nat} (h : sec < 34) (f : Bool) (g : Word) (t : State) :
    afterZeroizeErase sec f g t = beginZeroizeErase (sec + 1) f g t := if_pos h

theorem afterZeroizeErase_last (g : Word) (t : State) :
    afterZeroizeErase 34 false g t = zeroizeEnds t := rfl

theorem afterZeroizeErase_failed {t : State} {x : Word} (g : Word) (hx : t.gt = x) :
    afterZeroizeErase 34 true g t = { t with
      nvmOp := some { op := .zeroize .finalMark true, startGt := g, stepEnd := x + 20 } } := by
  subst hx
  rfl

/-- Settles O54: each step of a zeroize with both its ends, and what programs and erases leave. -/
theorem zeroizeSteps : Obligations.ZeroizeSteps := by
  unfold Obligations.ZeroizeSteps
  refine ⟨fun st failed g e s hop hgt => ⟨?mark, ?erase, ?final⟩, fun m sec use mask hm => ⟨?_,
    fun a ha => nvmGet_programWord_of_ne hm 0 2 0 ha, programPart_programWordPart hm 0 2 0 mask,
    fun a => nvmGet_eraseSector hm sec a, erasePart_eraseSectorPart hm sec use, ?_⟩⟩
  case mark =>
    rintro rfl
    obtain ⟨hs, hf⟩ := exec_zeroizeMarkProgramEnd hgt hop
    rw [hs, hf, beginZeroizeErase_eq 2 true g (raiseReport_nvm ..) (raiseReport_gt ..)]
    exact ⟨rfl, rfl⟩
  case erase =>
    rintro sec n rfl hsec
    obtain ⟨hs, hf⟩ := exec_zeroizeSectorEraseEnd hgt hop
    rw [sectorSlice_eq hsec] at hf
    generalize eraseSector s.nvm sec = m, eraseSectorPart s.nvm sec s.freeIndex = m' at hs hf ⊢
    refine ⟨_, rfl, fun hlt => ?_, ?_, ?_⟩
    · rw [hs, hf, afterZeroizeErase_of_lt hlt, afterZeroizeErase_of_lt hlt,
        beginZeroizeErase_eq _ failed g (raiseReport_nvm ..) (raiseReport_gt ..),
        beginZeroizeErase_eq _ failed g rfl rfl]
      exact ⟨rfl, rfl⟩
    · rintro rfl rfl
      rw [hs, hf, afterZeroizeErase_last, afterZeroizeErase_last]
      exact ⟨rfl, rfl⟩
    · rintro rfl rfl
      rw [hs, hf, afterZeroizeErase_failed g rfl, afterZeroizeErase_failed g (raiseReport_gt ..)]
      exact ⟨rfl, rfl⟩
  case final =>
    rintro rfl
    obtain ⟨hs, hf⟩ := exec_zeroizeFinalMarkEnd hgt hop
    rw [hs, hf]
    exact ⟨rfl, rfl⟩
  · exact (nvmWord_programWord hm 0 2 0).trans BitVec.and_zero
  · rintro a mark rfl
    exact nvmGet_beginErase_bytes hm sec a

end Sys2Proof.Machine
end

section
namespace Sys2Proof.Machine

/-! ## The steps of a COMMIT in flight (O47, O48) -/

theorem commitArea_ok (t : CommitTarget) (g : Word) (remark : Bool) (now : Word) :
    serviceArea (targetFields t ++ [fStartTime g, fMarkAfter remark]) now =
      leading ([((targetSlice t).map fun n => BitVec.ofNat 8 n.val).getD 0xFF,
        if remark then 1 else 0, 0xFF, 0xFF] ++ leBytes32 g) ++ leBytes32 now := by
  cases t <;> rfl

theorem commitArea_fail (r : NvmRecord) (c : CommitOp) (failWord : Option Nat) (now : Word) :
    serviceArea (failFields r c failWord) now =
      leading ([((targetSlice c.target).map fun n => BitVec.ofNat 8 n.val).getD 0xFF, 0xFF,
        (failWord.map (BitVec.ofNat 8)).getD 0xFF, 0xFF] ++ leBytes32 r.startGt) ++ leBytes32 now := by
  unfold failFields
  cases c.target <;> cases failWord <;> rfl

/-- Where the image of a target stands: its sector, its mark word and its slice. -/
structure Placed (t : CommitTarget) (sec mark : Nat) (slice : Option SliceNo) : Prop where
  sector : targetSector t = sec
  mark : markWordOf sec = mark
  slice : targetSlice t = slice

theorem Placed.of_target {t : CommitTarget} {sec mark : Nat} {slice : Option SliceNo}
    (h : (t = .directory ∧ slice = none ∧ sec = 2 ∧ mark = 79)
      ∨ ∃ n code, t = .slice n code ∧ slice = some n ∧ sec = 3 + n.val ∧ mark = 71) :
    Placed t sec mark slice := by
  rcases h with ⟨rfl, rfl, rfl, rfl⟩ | ⟨n, code, rfl, rfl, rfl, rfl⟩
  · exact ⟨rfl, rfl, rfl⟩
  · exact ⟨rfl, if_neg (by omega), rfl⟩

/-! ### The entry at the end, and the record discarded -/

theorem endStopping_discardRecord (s : State) :
    endStopping (discardRecord s) = discardRecord (endStopping s) := by
  unfold endStopping
  by_cases h : s.device = .stopping ∧ s.noneHeld = true
  · rw [if_pos h]
    exact if_pos h
  · rw [if_neg h]
    exact if_neg h

theorem settle_discardRecord (l : LaneNo) (s : State) :
    settle l (discardRecord s) = discardRecord (settle l s) := by
  have hf : (discardRecord s).frozen = s.frozen := rfl
  have hl : (discardRecord s).lane l = s.lane l := rfl
  unfold settle
  rw [hf, hl]
  split
  · rfl
  · split
    · exact endStopping_discardRecord (s.setLane l { s.lane l with state := .paused })
    · exact endStopping_discardRecord s

theorem releaseCells_discardRecord (l : LaneNo) (n : Nat) (s : State) :
    discardRecord (releaseCells l n s) = releaseCells l n (discardRecord s) :=
  (settle_discardRecord l _).symm

theorem commitEntry_detached {c : CommitOp} (h : c.cell = none) (st : Status) (fields : List ResultField)
    (s : State) : commitEntry c st fields s = s := by
  unfold commitEntry
  rw [h]

theorem commitEntry_made {c : CommitOp} {x : TakenCell} (h : c.cell = some x) {s : State}
    (hl : (s.lane c.lane).state ≠ .halted) (st : Status) (fields : List ResultField) :
    commitEntry c st fields s = { s with
      returnQueue := s.returnQueue ++
        [{ lane := c.lane, cells := [x], status := st, result := serviceArea fields s.gt
           firstDone := false }] } := by
  unfold commitEntry
  rw [h]
  exact if_neg hl

theorem commitEntry_halted {c : CommitOp} {x : TakenCell} (h : c.cell = some x) {s : State}
    (hl : (s.lane c.lane).state = .halted) (st : Status) (fields : List ResultField) :
    CellDropped c.lane (discardRecord s) (discardRecord (commitEntry c st fields s)) := by
  have he : commitEntry c st fields s = releaseCells c.lane 1 s := by
    unfold commitEntry
    rw [h]
    exact if_pos hl
  rw [he, releaseCells_discardRecord]
  refine cellDropped_releaseCells _ _ fun hd => ?_
  exact absurd (hl.symm.trans hd) (by decide)

theorem clearMark_eq (c : CommitOp) (s : State) :
    clearMark c s = { s with
      dirDirty := if targetSlice c.target = none ∧ c.remark = false then false else s.dirDirty
      directory := (clearMark c s).directory } := by
  unfold clearMark
  cases c.remark <;> cases c.target <;> rfl

theorem clearMark_binding (c : CommitOp) (s : State) (n : SliceNo) :
    (clearMark c s).binding n = if targetSlice c.target = some n ∧ c.remark = false then
        (s.binding n).map (fun b => { b with dirty := false })
      else s.binding n := by
  unfold clearMark
  cases c.remark with
  | true => simp
  | false =>
    cases c.target with
    | directory => simp [targetSlice, State.binding]
    | slice m code =>
      by_cases hm : n = m
      · simp [targetSlice, hm]
      · simp [targetSlice, hm, Ne.symm hm]

/-! ### The commands -/

theorem exec_spoilProgramEnd_runTo {r : NvmRecord} {c : CommitOp} {s : State} (hop : s.nvmOp = some r)
    (hc : r.op = .commit c) {failWord : Option Nat} (hst : c.step = .spoil failWord) (x : NvmEnd) :
    exec (.spoilProgramEnd x) s =
      .next (spoilEnds r c failWord (spoilArray x c (s.runTo r.stepEnd))) := by
  change execSpoilProgramEnd x s = _
  simp only [execSpoilProgramEnd, commitOp_of_nvmOp hop hc, hst]

section
variable {r : NvmRecord} {c : CommitOp} {s : State} (hop : s.nvmOp = some r) (hc : r.op = .commit c)
  (hgt : 0 ≤ (r.stepEnd - s.gt).toInt)
include hop hc hgt

theorem exec_commitEraseEnd (hst : c.step = .erase) :
    exec (.commitEraseEnd .success) s = .next (commitStep r c (.program 0) programTime
        { s with gt := r.stepEnd, nvm := eraseSector s.nvm (targetSector c.target) })
    ∧ exec (.commitEraseEnd .failure) s = .next (commitStep r c (.spoil none) programTime
        { s with
          gt := r.stepEnd, nvm := eraseSectorPart s.nvm (targetSector c.target) s.freeIndex
          freeIndex := s.freeIndex + 1 }) := by
  change execCommitEraseEnd .success s = _ ∧ execCommitEraseEnd .failure s = _
  simp only [execCommitEraseEnd, commitOp_of_nvmOp hop hc, hst, if_pos, runTo_of_ahead s _ hgt,
    commitFails, and_self]

theorem exec_commitWordProgramEnd {k : Nat} (hst : c.step = .program k) :
    exec (.commitWordProgramEnd .success) s =
        .next (programSucceeds r c k { s with gt := r.stepEnd })
    ∧ exec (.commitWordProgramEnd .failure) s = .next (commitStep r c (.spoil (some k)) programTime
        { s with
          gt := r.stepEnd
          nvm := programWordPart s.nvm (targetSector c.target) k (c.image.getD k 0)
            (Config.freeMask s.freeIndex)
          freeIndex := s.freeIndex + 1 }) := by
  change execCommitWordProgramEnd .success s = _ ∧ execCommitWordProgramEnd .failure s = _
  simp only [execCommitWordProgramEnd, commitOp_of_nvmOp hop hc, hst, runTo_of_ahead s _ hgt,
    commitFails, and_self]

theorem exec_spoilProgramEnd {failWord : Option Nat} (hst : c.step = .spoil failWord) (x : NvmEnd) :
    exec (.spoilProgramEnd x) s =
      .next (spoilEnds r c failWord (spoilArray x c { s with gt := r.stepEnd })) := by
  rw [exec_spoilProgramEnd_runTo hop hc hst, runTo_of_ahead s _ hgt]

end

theorem commitStep_eq {c : CommitOp} (r : NvmRecord) (step : CommitStep) {t : State} {e : Word}
    (he : t.gt = e) :
    commitStep r c step programTime t = { t with
      nvmOp := some
        { op := .commit { c with step := step }, startGt := r.startGt, stepEnd := e + 20 } } := by
  subst he
  rfl

/-- The word program that does not end the image: the next word's begins. -/
theorem programSucceeds_of_ne {c : CommitOp} {sec mark : Nat} {slice : Option SliceNo}
    (hp : Placed c.target sec mark slice) {k : Nat} (h : k ≠ mark) (r : NvmRecord) (s : State) :
    programSucceeds r c k s = commitStep r c (.program (k + 1)) programTime
      { s with nvm := programWord s.nvm sec k (c.image.getD k 0) } := by
  unfold programSucceeds
  rw [hp.sector, hp.mark]
  exact if_neg h

theorem programSucceeds_mark {c : CommitOp} {sec mark : Nat} {slice : Option SliceNo}
    (hp : Placed c.target sec mark slice) (r : NvmRecord) (s : State) :
    programSucceeds r c mark s =
      commitSucceeds r c { s with nvm := programWord s.nvm sec mark (c.image.getD mark 0) } := by
  unfold programSucceeds
  rw [hp.sector, hp.mark]
  exact if_pos rfl

theorem nvmWord_programWord_ite {m : List Host.Cell} (h : nvmWf m = true) (sec k : Nat) (v : Word)
    (j : Nat) : nvmWord (programWord m sec k v) sec j =
      if j = k then nvmWord m sec k &&& v else nvmWord m sec j :=
  nvmWord_nvmSetWord h sec k j _

/-- The end of a COMMIT in the state `v` that its marks are left in: the entry is made or, for a HALTED
lane, its cell is dropped, and the record is discarded. -/
theorem discardRecord_commitEntry (c : CommitOp) (st : Status) (fields : List ResultField) (v : State) :
    (c.cell = none → discardRecord (commitEntry c st fields v) = discardRecord v)
    ∧ (∀ x, c.cell = some x → (v.lane c.lane).state ≠ .halted →
      discardRecord (commitEntry c st fields v) = { discardRecord v with
        returnQueue := v.returnQueue ++
          [{ lane := c.lane, cells := [x], status := st, result := serviceArea fields v.gt
             firstDone := false }] })
    ∧ (∀ x, c.cell = some x → (v.lane c.lane).state = .halted →
      CellDropped c.lane (discardRecord v) (discardRecord (commitEntry c st fields v))) := by
  refine ⟨fun h => ?_, fun x h hl => ?_, fun x h hl => commitEntry_halted h hl st fields⟩
  · rw [commitEntry_detached h]
  · rw [commitEntry_made h hl]
    rfl

/-- The end of a COMMIT that has succeeded: its mark cleared, its entry made or its cell dropped. -/
theorem commitSucceeds_end {c : CommitOp} {sec mark : Nat} {slice : Option SliceNo}
    (hp : Placed c.target sec mark slice) (r : NvmRecord) (v : State) :
    (c.cell = none → commitSucceeds r c v = discardRecord (clearMark c v))
    ∧ (∀ x, c.cell = some x → (v.lane c.lane).state ≠ .halted →
      commitSucceeds r c v = { discardRecord (clearMark c v) with
        returnQueue := v.returnQueue ++
          [{ lane := c.lane, cells := [x], status := .ok, firstDone := false
             result := leading
                 ([(slice.map fun n => BitVec.ofNat 8 n.val).getD 0xFF,
                   if c.remark then 1 else 0, 0xFF, 0xFF] ++ leBytes32 r.startGt)
               ++ leBytes32 v.gt }] })
    ∧ (∀ x, c.cell = some x → (v.lane c.lane).state = .halted →
      CellDropped c.lane (discardRecord (clearMark c v)) (commitSucceeds r c v)) := by
  have hend := discardRecord_commitEntry c .ok
    (targetFields c.target ++ [fStartTime r.startGt, fMarkAfter c.remark]) (clearMark c v)
  have hmark := clearMark_eq c v
  have hlane : (clearMark c v).lane c.lane = v.lane c.lane := by rw [hmark]; rfl
  have hqueue : (clearMark c v).returnQueue = v.returnQueue := by rw [hmark]
  have hgt : (clearMark c v).gt = v.gt := by rw [hmark]
  rwa [hlane, hqueue, hgt, commitArea_ok, hp.slice] at hend

/-- Settles O47: the erase, each word program and, after the mark word, the end of the commit. -/
theorem commitSucceeds_outcomes : Obligations.CommitSucceeds := by
  unfold Obligations.CommitSucceeds
  intro r c sec mark slice s hop hc hwf hgt htarget
  have hp := Placed.of_target htarget
  refine ⟨fun hst => ?erase, fun k hst => ?program⟩
  case erase =>
    refine ⟨eraseSector s.nvm sec, ?_, fun a => nvmGet_eraseSector hwf sec a⟩
    rw [(exec_commitEraseEnd hop hc hgt hst).1, hp.sector, commitStep_eq _ _ rfl]
  case program =>
    obtain ⟨hexec, -⟩ := exec_commitWordProgramEnd hop hc hgt hst
    refine ⟨programWord s.nvm sec k (c.image.getD k 0), nvmWord_programWord_ite hwf sec k _,
      fun a ha => nvmGet_programWord_of_ne hwf sec k _ ha, fun hk => ?_, ?_⟩
    · rw [hexec, programSucceeds_of_ne hp hk, commitStep_eq _ _ rfl]
    · rintro rfl
      rw [hexec, programSucceeds_mark hp]
      generalize programWord s.nvm sec k (c.image.getD k 0) = m
      obtain ⟨hnone, hmade, hhalted⟩ := commitSucceeds_end hp r { s with gt := r.stepEnd, nvm := m }
      have hmark := clearMark_eq c { s with gt := r.stepEnd, nvm := m }
      have hbinding := clearMark_binding c { s with gt := r.stepEnd, nvm := m }
      rw [hp.slice] at hmark
      simp only [hp.slice] at hbinding
      exact ⟨_, congrArg discardRecord hmark, hbinding, fun h => congrArg _ (hnone h),
        fun x h hx => congrArg _ (hmade x h hx), fun x h hx => ⟨_, rfl, hhalted x h hx⟩⟩

end Sys2Proof.Machine
end

section
namespace Sys2Proof.Machine

/-! ### The failure of a COMMIT (O48) -/

/-- What the end of a spoiling program leaves in the array, and whether a free value was used. -/
theorem spoilArray_outcome {c : CommitOp} {sec mark : Nat} {slice : Option SliceNo}
    (hp : Placed c.target sec mark slice) (x : NvmEnd) {s : State} (hwf : nvmWf s.nvm = true) :
    ∃ m, spoilArray x c s = { s with
        nvm := m, freeIndex := if x = .success then s.freeIndex else s.freeIndex + 1 }
      ∧ (x = .success → nvmWord m sec mark = 0)
      ∧ ∀ a, (a < 512 * sec + 4 * mark ∨ 512 * sec + 4 * mark + 4 ≤ a) →
          nvmGet m a = nvmGet s.nvm a := by
  simp only [spoilArray, hp.sector, hp.mark]
  cases x with
  | success =>
    exact ⟨_, rfl, fun _ => (nvmWord_programWord hwf sec mark 0).trans BitVec.and_zero,
      fun a ha => nvmGet_programWord_of_ne hwf sec mark 0 ha⟩
  | failure =>
    exact ⟨_, rfl, fun h => absurd h (by decide),
      fun a ha => nvmGet_spoilWordPart_of_ne hwf sec _ (by rw [hp.mark]; exact ha)⟩

theorem raiseReport_lane (r : Report) (s : State) (l : LaneNo) : (raiseReport r s).lane l = s.lane l :=
  State.lane_congr (by rw [raiseReport_frame]) l

theorem raiseReport_returnQueue (r : Report) (s : State) :
    (raiseReport r s).returnQueue = s.returnQueue := by
  rw [raiseReport_frame]

/-- Settles O48: the failure of the erase and of a word program, and either end of the spoiling program. -/
theorem commitFails_outcomes : Obligations.CommitFails := by
  unfold Obligations.CommitFails
  intro r c sec mark slice s hop hc hwf hgt htarget
  have hp := Placed.of_target htarget
  refine ⟨fun hst => ?erase, fun k hst => ?program, fun failWord x hst => ?spoil⟩
  case erase =>
    obtain ⟨hlast, hmark, hframe⟩ := erasePart_eraseSectorPart hwf sec s.freeIndex
    have hm : (if sec = 2 then 79 else 71) = mark := hp.mark
    rw [hm] at hmark
    refine ⟨eraseSectorPart s.nvm sec s.freeIndex, ?_, hlast, hmark, hframe⟩
    rw [(exec_commitEraseEnd hop hc hgt hst).2, hp.sector, commitStep_eq _ _ rfl]
  case program =>
    refine ⟨programWordPart s.nvm sec k (c.image.getD k 0) (Config.freeMask s.freeIndex), ?_,
      programPart_programWordPart hwf sec k _ _⟩
    rw [(exec_commitWordProgramEnd hop hc hgt hst).2, hp.sector, commitStep_eq _ _ rfl]
  case spoil =>
    obtain ⟨m, harray, hzero, hframe⟩ :=
      spoilArray_outcome hp x (s := { s with gt := r.stepEnd }) hwf
    obtain ⟨hnone, hmade, hhalted⟩ := discardRecord_commitEntry c .nvmFail (failFields r c failWord)
      (raiseReport { cls := .nvmFail, lane := some c.lane, slice := slice, slot := none }
        (spoilArray x c { s with gt := r.stepEnd }))
    rw [raiseReport_lane, harray] at hmade hhalted
    rw [harray] at hnone
    rw [raiseReport_returnQueue, raiseReport_gt, commitArea_fail, hp.slice] at hmade
    have hexec := exec_spoilProgramEnd hop hc hgt hst x
    unfold spoilEnds at hexec
    rw [hp.slice, harray] at hexec
    rw [hexec]
    exact ⟨m, _, rfl, hzero, hframe, fun h => congrArg _ (hnone h),
      fun y h hy => congrArg _ (hmade y h hy), fun y h hy => ⟨_, rfl, hhalted y h hy⟩⟩

end Sys2Proof.Machine
end

section
namespace Sys2Proof.Machine

/-! ## COMMIT at the head (O46) -/

/-! ### The reads of a slice's snapshot -/

/-- From `s` to `t` the slots of slice `n` that `p` names have become FAULTY and their cache entries are
purged; the slice was marked before (R76, R83). -/
structure SlotsFail (n : SliceNo) (p : SlotNo → Bool) (s t : State) : Prop where
  frame : t = { s with
    slices := t.slices, cache := s.cache.filter fun x => !(x.ref.slice == n && p x.ref.slot) }
  slot : ∀ k, t.slot n k = if p k then
      { s.slot n k with state := .faulty, key := none, epoch := (s.slot n k).epoch + 1 }
    else s.slot n k
  other : ∀ j k, j ≠ n → t.slot j k = s.slot j k

theorem SlotsFail.refl (n : SliceNo) {p : SlotNo → Bool} (h : ∀ k, p k = false) (s : State) :
    SlotsFail n p s s where
  frame := by simp [h]
  slot k := by simp [h]
  other _ _ _ := rfl

theorem SlotsFail.congr {n : SliceNo} {p q : SlotNo → Bool} {s t : State} (h : SlotsFail n p s t)
    (hq : ∀ k, p k = q k) : SlotsFail n q s t := funext hq ▸ h

/-- A marked slice keeps its directory entry, and with no operation in flight none is re-marked. -/
theorem makeFaulty_marked {n : SliceNo} {b : Binding} {s : State} (hb : s.binding n = some b)
    (hd : b.dirty = true) (hop : s.nvmOp = none) (k : SlotNo) :
    makeFaulty n k s = { s with
      slices := (makeFaulty n k s).slices, cache := purgeCache n k s.cache } := by
  have hdir : (makeFaulty n k s).directory = s.directory := by
    have hset : (s.binding n).map (fun b => { b with dirty := true }) = s.directory[n] := by
      rw [hb, Option.map_some, ← hd]
      exact hb.symm
    change s.directory.set n ((s.binding n).map fun b => { b with dirty := true }) = _
    rw [hset]
    exact Vector.set_getElem_self n.isLt
  have hrec : (makeFaulty n k s).nvmOp = s.nvmOp := by
    rw [makeFaulty_nvmOp, hop]
    rfl
  rw [← hdir, ← hrec]
  rfl

theorem SlotsFail.makeFaulty {n : SliceNo} {b : Binding} {k : SlotNo} {p : SlotNo → Bool} {s t : State}
    (hb : s.binding n = some b) (hd : b.dirty = true) (hop : s.nvmOp = none) (hk : p k = false)
    (h : SlotsFail n p (makeFaulty n k s) t) : SlotsFail n (fun j => j == k || p j) s t := by
  have hm := makeFaulty_marked hb hd hop k
  have hcache : (Machine.makeFaulty n k s).cache = purgeCache n k s.cache := by rw [hm]
  refine ⟨?_, fun j => ?_, fun m j hm => ?_⟩
  · rw [h.frame, hcache, hm]
    have hf : ((purgeCache n k s.cache).filter fun x => !(x.ref.slice == n && p x.ref.slot))
        = s.cache.filter fun x => !(x.ref.slice == n && (x.ref.slot == k || p x.ref.slot)) := by
      rw [purgeCache, List.filter_filter]
      refine List.filter_congr fun x _ => ?_
      cases x.ref.slice == n <;> cases x.ref.slot == k <;> simp
    rw [hf]
  · rw [h.slot]
    by_cases hj : j = k
    · subst hj
      simp [hk, makeFaulty_slot]
    · simp [hj, makeFaulty_slot]
  · rw [h.other m j hm, makeFaulty_slot, if_neg fun hc => hm hc.1]

/-- What the ECC read of a slot gives in a snapshot: whether it fails and whether it corrects. -/
structure ReadGives (x : Slot) (failed fixed : Bool) : Prop where
  failed : failed = true ↔ x.holdsKey = true ∧ readKey x = .failed
  fixed : fixed = true ↔ x.holdsKey = true ∧ ∃ v, readKey x = .corrected v

/-- The report of a slot's read. -/
def readReports (lane : LaneNo) (n : SliceNo) (failed fixed : SlotNo → Bool) (k : SlotNo) : List Report :=
  if failed k then [eccReport .uncorrectedEcc lane n k]
  else if fixed k then [eccReport .correctedEcc lane n k] else []

theorem ReadGives.of_cell {x : Slot} {failed fixed : Bool}
    (hkey : x.holdsKey = true → ∃ c, x.key = some c)
    (hfailed : failed = true ↔ x.holdsKey = true ∧ ∃ c, x.key = some c ∧ c.ecc = .uncorrectable)
    (hfixed : fixed = true ↔ x.holdsKey = true ∧ ∃ c, x.key = some c ∧ c.ecc = .correctable) :
    ReadGives x failed fixed := by
  have hread : x.holdsKey = true →
      (readKey x = .failed ↔ ∃ c, x.key = some c ∧ c.ecc = .uncorrectable)
      ∧ ((∃ v, readKey x = .corrected v) ↔ ∃ c, x.key = some c ∧ c.ecc = .correctable) := by
    intro hx
    obtain ⟨c, hc⟩ := hkey hx
    cases he : c.ecc with
    | clean => simp [readKey_clean hc he, hc, he]
    | correctable => simp [readKey_correctable hc he, hc, he]
    | uncorrectable => simp [readKey_uncorrectable hc he, hc, he]
  exact ⟨hfailed.trans (and_congr_right fun hx => (hread hx).1.symm),
    hfixed.trans (and_congr_right fun hx => (hread hx).2.symm)⟩

/-- The reads of a marked slice's snapshot: the slots whose read fails become FAULTY, and each read that
fails or corrects is reported, in slot order. -/
theorem snapshotReads_fails {n : SliceNo} {b : Binding} (hd : b.dirty = true) (lane : LaneNo)
    {failed fixed : SlotNo → Bool} {ks : List SlotNo} (hks : ks.Nodup) {s : State}
    (hb : s.binding n = some b) (hop : s.nvmOp = none)
    (hr : ∀ k ∈ ks, ReadGives (s.slot n k) (failed k) (fixed k)) :
    SlotsFail n (fun k => decide (k ∈ ks) && failed k) s (snapshotReads lane n ks s).1
      ∧ (snapshotReads lane n ks s).2 = ks.flatMap (readReports lane n failed fixed) := by
  induction ks generalizing s with
  | nil => exact ⟨.refl n (by simp) s, rfl⟩
  | cons k ks ih =>
    obtain ⟨hk, hks⟩ := List.nodup_cons.mp hks
    have hrk := hr k List.mem_cons_self
    have hrs : ∀ j ∈ ks, ReadGives (s.slot n j) (failed j) (fixed j) :=
      fun j hj => hr j (List.mem_cons_of_mem k hj)
    have hpass : failed k = false →
        ∀ j, (decide (j ∈ ks) && failed j) = (decide (j ∈ k :: ks) && failed j) := by
      intro hf j
      by_cases hj : j = k <;> simp [hj, hf]
    unfold snapshotReads
    rw [List.flatMap_cons, readReports]
    split
    next hx =>
      split
      next v hv =>
        have hf : failed k = false := by simpa [hv] using hrk.failed
        have hfix : fixed k = false := by simpa [hv] using hrk.fixed
        obtain ⟨hs, hreps⟩ := ih hks hb hop hrs
        exact ⟨hs.congr (hpass hf), by simp [hf, hfix, hreps]⟩
      next v hv =>
        have hf : failed k = false := by simpa [hv] using hrk.failed
        have hfix : fixed k = true := by simpa [hv, hx] using hrk.fixed
        obtain ⟨hs, hreps⟩ := ih hks hb hop hrs
        exact ⟨hs.congr (hpass hf), by simp [hf, hfix, hreps]⟩
      next hv =>
        have hf : failed k = true := hrk.failed.mpr ⟨hx, hv⟩
        have hb' : (makeFaulty n k s).binding n = some b := by
          rw [makeFaulty_binding, if_pos rfl, hb, Option.map_some, ← hd]
        have hop' : (makeFaulty n k s).nvmOp = none := by rw [makeFaulty_nvmOp, hop]; rfl
        obtain ⟨hs, hreps⟩ := ih hks hb' hop' fun j hj => by
          have hne : ¬ (n = n ∧ j = k) := fun ⟨_, hc⟩ => hk (hc ▸ hj)
          rw [makeFaulty_slot, if_neg hne]
          exact hrs j hj
        refine ⟨(hs.makeFaulty hb hd hop (by simp [hk])).congr fun j => ?_, by simp [hf, hreps]⟩
        by_cases hj : j = k <;> simp [hj, hf]
    next hx =>
      have hf : failed k = false := by simpa [hx] using hrk.failed
      have hfix : fixed k = false := by simpa [hx] using hrk.fixed
      obtain ⟨hs, hreps⟩ := ih hks hb hop hrs
      exact ⟨hs.congr (hpass hf), by simp [hf, hfix, hreps]⟩

/-! ### The checks and the start -/

section
variable {h : ServiceRequest} {rest : List ServiceRequest} {s : State}

theorem exec_commit (ha : Arrived .commit h rest s) : exec .commit s = .next (runCommit h s) :=
  congrArg _ (onHead_of_arrived ha _)

theorem runCommit_malformed (h1 : byteAt h.cell.bytes 8 ≠ 0x01) (h2 : byteAt h.cell.bytes 8 ≠ 0x02) :
    runCommit h s = finish h .malformed [] s := if_pos ⟨h1, h2⟩

theorem runCommit_busy (ht : byteAt h.cell.bytes 8 = 0x01 ∨ byteAt h.cell.bytes 8 = 0x02)
    (hop : s.nvmOp ≠ none) : runCommit h s = finish h .busy [] s :=
  (if_neg fun hm => ht.elim hm.1 hm.2).trans (if_pos (Option.isSome_iff_ne_none.mpr hop))

/-- With no operation in flight the target decides. -/
theorem runCommit_of_idle (ht : byteAt h.cell.bytes 8 = 0x01 ∨ byteAt h.cell.bytes 8 = 0x02)
    (hop : s.nvmOp = none) :
    runCommit h s = if byteAt h.cell.bytes 8 = 0x02 then commitTarget h .directory s
      else match s.sliceOf (le16 h.cell.bytes 6) with
        | none => finish h .noIssuer [] s
        | some n => commitTarget h (.slice n (le16 h.cell.bytes 6)) s := by
  have hidle : ¬ s.nvmBusy = true := by simp [State.nvmBusy, hop]
  exact (if_neg fun hm => ht.elim hm.1 hm.2).trans (if_neg hidle)

theorem commitTarget_clean (hf : s.fifo = h :: rest) {t : CommitTarget} (hd : s.targetDirty t = false) :
    commitTarget h t s = completedWith h rest .ok
      (leading [((targetSlice t).map fun n => BitVec.ofNat 8 n.val).getD 0xFF, 0x00]) s := by
  have harea : (targetFields t ++ [fMarkAfter false]).foldl (fun b f => putBytes b (f.1 - 36) f.2)
      (leading []) = leading [((targetSlice t).map fun n => BitVec.ofNat 8 n.val).getD 0xFF, 0x00] := by
    cases t <;> rfl
  rw [← finish_area hf rfl harea]
  exact if_neg (by simp [hd])

/-- A COMMIT that starts, from the slots and the cache that its snapshot leaves. -/
theorem commitTarget_dirty (hf : s.fifo = h :: rest) {t : CommitTarget} (hd : s.targetDirty t = true)
    {slices' : Vector (Vector Slot 8) 32} {cache' : List CacheEntry}
    (hsnap : (snapshotState h.lane t s).1 = { s with slices := slices', cache := cache' }) :
    commitTarget h t s = raiseReports (snapshotState h.lane t s).2 { s with
      fifo := rest, nvm := beginErase s.nvm (targetSector t), slices := slices', cache := cache'
      nvmOp := some
        { op := .commit
            { target := t, image := targetImage { s with slices := slices', cache := cache' } t
              step := .erase, cell := some h.cell, lane := h.lane, remark := false }
          startGt := s.gt, stepEnd := s.gt + 12000 } } := by
  have hpop := popHead_cons (s := { s with slices := slices', cache := cache' }) hf
  refine (if_pos hd).trans ?_
  unfold startCommit
  simp only [hsnap, hpop]
  rfl

end

theorem allSlots_nodup : allSlots.Nodup := by decide

/-- Settles O46: the checks in order, the clean target, and the start with its snapshot. -/
theorem commitAtHead : Obligations.CommitAtHead := by
  unfold Obligations.CommitAtHead
  rintro h rest code s ha rfl hwf
  obtain ⟨_, hf, _, _⟩ := id ha
  rw [exec_commit ha]
  refine ⟨fun ⟨h1, h2⟩ => ?_, fun ht hop => ?_, fun ht hop => ?directory, fun ht hop => ?slice⟩
  · rw [runCommit_malformed h1 h2, finish_asWritten hf rfl]
  · rw [runCommit_busy ht hop, finish_none hf rfl]
  case directory =>
    rw [runCommit_of_idle (.inr ht) hop, if_pos ht]
    refine ⟨fun hd => congrArg _ (commitTarget_clean hf hd), fun hd => ?_⟩
    exact ⟨_, congrArg _ (commitTarget_dirty (t := .directory) hf hd rfl),
      fun a => nvmGet_beginErase_bytes hwf 2 a⟩
  case slice =>
    rw [runCommit_of_idle (.inl ht) hop, if_neg (by rw [ht]; decide)]
    refine ⟨fun hu => ?_, fun n b hn hb => ?_⟩
    · rw [sliceOf_of_unbound hu]
      exact congrArg _ (finish_none hf rfl)
    · rw [sliceOf_of_boundTo hn]
      have hmark : s.targetDirty (.slice n (le16 h.cell.bytes 6)) = b.dirty := by
        simp [State.targetDirty, State.dirtySlice, hb]
      refine ⟨fun hd => congrArg _ (commitTarget_clean hf (hmark.trans hd)),
        fun failed fixed hd hkey hfailed hfixed => ?_⟩
      obtain ⟨hs, hreps⟩ := snapshotReads_fails (ks := allSlots) hd h.lane allSlots_nodup hb hop
        fun k _ => ReadGives.of_cell (hkey k) (hfailed k) (hfixed k)
      have hs := hs.congr (q := failed) fun k => by simp [mem_allSlots k]
      have hstart := commitTarget_dirty hf (hmark.trans hd) hs.frame
      refine ⟨beginErase s.nvm (3 + n.val), (snapshotReads h.lane n allSlots s).1.slices,
        congrArg _ (hstart.trans ?_), hs.slot, hs.other, fun a => ?_⟩
      · change raiseReports (snapshotReads h.lane n allSlots s).2 _ = _
        rw [hreps]
        rfl
      · have hsec : ¬ 3 + n.val = 2 := by omega
        rw [nvmGet_beginErase_bytes hwf]
        simp only [if_neg hsec]

end Sys2Proof.Machine
end

section
namespace Sys2Proof.Machine

/-! ## The images read back (O49, O50) -/

/-! ### Bytes and words -/

theorem byteAt_append_left {a : Bytes} (b : Bytes) {i : Nat} (h : i < a.length) :
    byteAt (a ++ b) i = byteAt a i := List.getD_append _ _ _ _ h

theorem byteAt_append_right {a : Bytes} (b : Bytes) {i : Nat} (h : a.length ≤ i) :
    byteAt (a ++ b) i = byteAt b (i - a.length) := List.getD_append_right _ _ _ _ h

theorem byteAt_take {b : Bytes} {n i : Nat} (h : i < n) : byteAt (b.take n) i = byteAt b i := by
  simp [byteAt, List.getD_eq_getElem?_getD, h]

theorem le32_eq_join (b : Bytes) (off : Nat) :
    le32 b off = byteAt b (off + 3) ++ byteAt b (off + 2) ++ byteAt b (off + 1) ++ byteAt b off :=
  append_halves ..

theorem le32_leBytes32 (v : Word) (b : Bytes) : le32 (leBytes32 v ++ b) 0 = v := by
  rw [le32_eq_join]
  exact leBytes32_join v

theorem le32_congr {b c : Bytes} {off off' : Nat}
    (h : ∀ i, i < 4 → byteAt b (off + i) = byteAt c (off' + i)) :
    le32 b off = le32 c off' := by
  have h0 : byteAt b off = byteAt c off' := h 0 (by omega)
  rw [le32_eq_join, le32_eq_join, h 3 (by omega), h 2 (by omega), h 1 (by omega), h0]

/-- A byte of blocks of one length, put one behind the other. -/
theorem byteAt_flatMap {α : Type} {f : α → Bytes} {w : Nat} (hw : ∀ x, (f x).length = w) {l : List α}
    {i : Nat} (hi : i < l.length) {j : Nat} (hj : j < w) :
    byteAt (l.flatMap f) (w * i + j) = byteAt (f l[i]) j := by
  induction l generalizing i with
  | nil => exact absurd hi (Nat.not_lt_zero i)
  | cons x l ih =>
    rw [List.flatMap_cons]
    cases i with
    | zero =>
      rw [Nat.mul_zero, Nat.zero_add, byteAt_append_left _ (by rw [hw]; exact hj)]
      rfl
    | succ i =>
      have hge : w * (i + 1) = w + w * i := by rw [Nat.mul_succ, Nat.add_comm]
      rw [byteAt_append_right _ (by rw [hw]; omega), hw,
        show w * (i + 1) + j - w = w * i + j by omega, ih (Nat.lt_of_succ_lt_succ hi)]
      rfl

theorem length_flatMap_blocks {α : Type} {f : α → Bytes} {w : Nat} (hw : ∀ x, (f x).length = w)
    (l : List α) : (l.flatMap f).length = w * l.length := by
  simp [List.length_flatMap, hw, Nat.mul_comm]

theorem le16_leBytes16 (v : Half) : byteAt (leBytes16 v) 1 ++ byteAt (leBytes16 v) 0 = v := by
  apply BitVec.eq_of_getLsbD_eq
  intro i hi
  simp only [byteAt, leBytes16, List.getD_cons_succ, List.getD_cons_zero, BitVec.getLsbD_append,
    BitVec.getLsbD_extractLsb']
  split_ifs with h
  · simp [h]
  · have h8 : i - 8 < 8 := by omega
    have he : 8 + (i - 8) = i := by omega
    simp [h8, he]

theorem leBytes32_le32 (b : Bytes) (off : Nat) :
    leBytes32 (le32 b off) =
      [byteAt b off, byteAt b (off + 1), byteAt b (off + 2), byteAt b (off + 3)] := by
  rw [le32_eq_join, leBytes32_append]

/-- Bytes read as words are those bytes. -/
theorem wordsToBytes_bytesToWords {b : Bytes} {n : Nat} (h : b.length = 4 * n) :
    wordsToBytes (bytesToWords b n) = b := by
  have hlen : (wordsToBytes (bytesToWords b n)).length = 4 * n :=
    (length_flatMap_blocks (f := leBytes32) (w := 4) (fun _ => rfl) _).trans (by simp [bytesToWords])
  refine List.ext_getElem (hlen.trans h.symm) fun i h1 h2 => ?_
  have hdiv : i / 4 < (bytesToWords b n).length := by simp [bytesToWords]; omega
  have hbyte := byteAt_flatMap (f := leBytes32) (w := 4) (fun _ => rfl) hdiv (j := i % 4) (by omega)
  rw [Nat.div_add_mod] at hbyte
  rw [← List.getD_eq_getElem _ 0 h1, ← List.getD_eq_getElem _ 0 h2]
  refine hbyte.trans ?_
  have hword : (bytesToWords b n)[i / 4] = le32 b (4 * (i / 4)) := by simp [bytesToWords]
  rw [hword, leBytes32_le32]
  have hmod : i % 4 = 0 ∨ i % 4 = 1 ∨ i % 4 = 2 ∨ i % 4 = 3 := by omega
  change _ = byteAt b i
  rcases hmod with hm | hm | hm | hm <;>
  · rw [hm]
    exact congrArg (byteAt b) (by omega)

/-- An image that a sector holds is sound, and its content reads back byte by byte. -/
theorem imageSound_of_seal {b c : Bytes} {n : Nat} (hc : c.length = 4 * n)
    (hb : b.take (4 * (n + 2)) = wordsToBytes (sealImage (bytesToWords c n))) :
    imageSound b n = true ∧ ∀ i, i < 4 * n → byteAt b i = byteAt c i := by
  have hbytes : b.take (4 * (n + 2)) = c ++ (leBytes32 (crc32 c) ++ leBytes32 commitMark) := by
    rw [hb, sealImage]
    simp only [wordsToBytes, List.flatMap_append, List.flatMap_cons, List.flatMap_nil, List.append_nil]
    change wordsToBytes _ ++ (leBytes32 (crc32 (wordsToBytes _)) ++ _) = _
    rw [wordsToBytes_bytesToWords hc]
  have hbody : b.take (4 * n) = c := by
    have := congrArg (List.take (4 * n)) hbytes
    rwa [List.take_take, Nat.min_eq_left (by omega), ← hc, List.take_left, hc] at this
  have htail : ∀ i, i < 8 →
      byteAt b (4 * n + i) = byteAt (leBytes32 (crc32 c) ++ leBytes32 commitMark) i := fun i hi => by
    rw [← byteAt_take (n := 4 * (n + 2)) (by omega), hbytes, byteAt_append_right _ (by omega), hc,
      Nat.add_sub_cancel_left]
  have hcrc : le32 b (4 * n) = crc32 c :=
    (le32_congr fun i hi => by rw [htail i (by omega), Nat.zero_add]).trans (le32_leBytes32 _ _)
  have hmark : le32 b (4 * (n + 1)) = commitMark :=
    (le32_congr fun i hi => by
      rw [Nat.mul_succ, Nat.add_assoc, htail (4 + i) (by omega), List.append_nil, Nat.zero_add]
      refine (byteAt_append_right _ (Nat.le_add_right 4 i)).trans ?_
      exact congrArg _ (Nat.add_sub_cancel_left 4 i)).trans (le32_leBytes32 commitMark [])
  refine ⟨?_, fun i hi => ?_⟩
  · simp [imageSound, hcrc, hmark, hbody]
  · rw [← byteAt_take hi, hbody]

/-! ### The directory image -/

theorem length_placeBytes (n : SliceNo) (o : Option Binding) : (placeBytes n o).length = 4 := by
  cases o <;> rfl

theorem length_transportBytes (o : Option TransportKey) : (transportBytes o).length = 20 := by
  cases o <;> simp [transportBytes, bytesAt]

theorem bytesAt_self {b : Bytes} {n : Nat} (h : b.length = n) : bytesAt b 0 n = b := by
  subst h
  refine List.ext_getElem (by simp [bytesAt]) fun i h1 h2 => ?_
  simp [bytesAt, byteAt, h2]

/-- The bytes between two others. -/
theorem bytesAt_middle (a b c : Bytes) : bytesAt (a ++ b ++ c) a.length b.length = b := by
  refine (List.map_congr_left fun i hi => ?_).trans (bytesAt_self rfl)
  have hi := List.mem_range.mp hi
  rw [byteAt_append_left _ (by rw [List.length_append]; omega), byteAt_append_right _ (by omega),
    Nat.add_sub_cancel_left, Nat.zero_add]

theorem allSlices_get {i : Nat} (h : i < 32) : ∃ hl : i < allSlices.length, allSlices[i] = ⟨i, h⟩ := by
  have hall : ∀ n : Fin 32, ∃ hl : n.val < allSlices.length, allSlices[n.val] = n := by decide
  exact hall ⟨i, h⟩

/-- The bytes under the CRC of a directory image. -/
def directoryBytes (s : State) : Bytes :=
  leBytes16 s.currentDay ++ [0, 0] ++ (allSlices.flatMap fun n => placeBytes n (s.binding n))
    ++ transportBytes s.transport ++ List.replicate 160 0

section
variable {s : State}

theorem length_places : (allSlices.flatMap fun n => placeBytes n (s.binding n)).length = 128 :=
  length_flatMap_blocks (fun n => length_placeBytes n _) _

theorem length_directoryBytes : (directoryBytes s).length = 312 := by
  simp only [directoryBytes, List.length_append, length_places, length_transportBytes,
    length_leBytes16, List.length_replicate, List.length_cons, List.length_nil]

theorem directoryBytes_day {i : Nat} (h : i < 2) :
    byteAt (directoryBytes s) i = byteAt (leBytes16 s.currentDay) i := by
  unfold directoryBytes
  simp only [List.append_assoc]
  exact byteAt_append_left _ h

theorem directoryBytes_place (n : SliceNo) {j : Nat} (h : j < 4) :
    byteAt (directoryBytes s) (4 * (n.val + 1) + j) = byteAt (placeBytes n (s.binding n)) j := by
  obtain ⟨hl, hn⟩ := allSlices_get n.isLt
  have hplace := byteAt_flatMap (f := fun m => placeBytes m (s.binding m))
    (fun m => length_placeBytes m _) hl h
  rw [hn] at hplace
  rw [← hplace, directoryBytes, byteAt_append_left, byteAt_append_left, byteAt_append_right]
  · refine congrArg _ ?_
    simp only [List.length_append, length_leBytes16, List.length_cons, List.length_nil]
    omega
  all_goals
    simp only [List.length_append, length_places, length_transportBytes, length_leBytes16,
      List.length_cons, List.length_nil]
    omega

theorem directoryBytes_transport {j : Nat} (h : j < 20) :
    byteAt (directoryBytes s) (132 + j) = byteAt (transportBytes s.transport) j := by
  rw [directoryBytes, byteAt_append_left, byteAt_append_right]
  · refine congrArg _ ?_
    simp only [List.length_append, length_places, length_leBytes16, List.length_cons, List.length_nil]
    omega
  all_goals
    simp only [List.length_append, length_places, length_transportBytes, length_leBytes16,
      List.length_cons, List.length_nil]
    omega

end

/-- A sector that begins with the directory image of a state. -/
structure HoldsDirectory (b : Bytes) (s : State) : Prop where
  sound : imageSound b 78 = true
  bytes : ∀ i, i < 312 → byteAt b i = byteAt (directoryBytes s) i

theorem HoldsDirectory.of_image {b : Bytes} {s : State}
    (h : b.take 320 = wordsToBytes (directoryImage s)) : HoldsDirectory b s := by
  obtain ⟨hs, hb⟩ := imageSound_of_seal (n := 78) length_directoryBytes h
  exact ⟨hs, hb⟩

section
variable {b : Bytes} {s : State} (h : HoldsDirectory b s)
include h

theorem HoldsDirectory.day : le16 b 0 = s.currentDay := by
  unfold le16
  rw [h.bytes _ (by omega), h.bytes _ (by omega), directoryBytes_day (by omega),
    directoryBytes_day (by omega)]
  exact le16_leBytes16 _

theorem HoldsDirectory.place (n : SliceNo) {j : Nat} (hj : j < 4) :
    byteAt b (4 * (n.val + 1) + j) = byteAt (placeBytes n (s.binding n)) j :=
  (h.bytes _ (by omega)).trans (directoryBytes_place n hj)

/-- The places in use are the bindings, in the order of their slices. -/
theorem HoldsDirectory.placesInUse :
    placesInUse b = allSlices.filterMap fun n => (s.binding n).map fun x => (x.issuer, n.val) := by
  have hrange : List.range 32 = allSlices.map Fin.val := by decide
  unfold Machine.placesInUse
  rw [hrange, List.filterMap_map]
  refine List.filterMap_congr fun n _ => ?_
  have h0 : byteAt b (4 * (n.val + 1)) = byteAt (placeBytes n (s.binding n)) 0 :=
    h.place n (j := 0) (by omega)
  have h1 := h.place n (j := 1) (by omega)
  have h2 := h.place n (j := 2) (by omega)
  have h3 := h.place n (j := 3) (by omega)
  simp only [Function.comp, le16, h0, h1, h2, h3]
  cases s.binding n with
  | none => exact if_neg (show ¬ (0 : Byte) = 0xA5 by decide)
  | some x =>
    refine (if_pos rfl).trans (congrArg some (Prod.ext (le16_leBytes16 x.issuer) ?_))
    change (BitVec.ofNat 8 n.val).toNat = n.val
    rw [BitVec.toNat_ofNat]
    omega

theorem HoldsDirectory.presence :
    presenceCode b = byteAt (transportBytes s.transport) 19 :=
  (h.bytes 151 (by omega)).trans (directoryBytes_transport (j := 19) (by omega))

theorem HoldsDirectory.transportAt {off n : Nat} (hn : off + n ≤ 20) :
    bytesAt b (132 + off) n = bytesAt (transportBytes s.transport) off n :=
  List.map_congr_left fun i hi => by
    have hi := List.mem_range.mp hi
    rw [Nat.add_assoc, h.bytes _ (by omega), directoryBytes_transport (by omega)]

theorem HoldsDirectory.mem_places {e : Half × Nat} :
    e ∈ Machine.placesInUse b ↔ ∃ n x, s.binding n = some x ∧ e = (x.issuer, n.val) := by
  rw [h.placesInUse]
  simp only [List.mem_filterMap, Option.map_eq_some_iff, mem_allSlices, true_and]
  exact ⟨fun ⟨n, x, hx, he⟩ => ⟨n, x, hx, he.symm⟩, fun ⟨n, x, hx, he⟩ => ⟨n, x, hx, he.symm⟩⟩

theorem HoldsDirectory.imageBindings (n : SliceNo) : (imageBindings b)[n] =
    (s.binding n).map fun x => { issuer := x.issuer, locked := false, dirty := false } := by
  rw [imageBindings_get]
  cases hf : (Machine.placesInUse b).find? fun e => e.2 == n.val with
  | none =>
    cases hb : s.binding n with
    | none => rfl
    | some x =>
      exact absurd (beq_self_eq_true _) (List.find?_eq_none.mp hf _ (h.mem_places.mpr ⟨n, x, hb, rfl⟩))
  | some e =>
    obtain ⟨m, x, hx, rfl⟩ := h.mem_places.mp (List.mem_of_find?_eq_some hf)
    have hm : m = n := Fin.ext (by simpa using List.find?_some hf)
    rw [← hm, hx]
    rfl

theorem HoldsDirectory.imageTransport
    (hk : ∀ k, s.transport = some k → k.key.length = 16 ∧ k.kcv.length = 3) :
    (presenceCode b = 0x5A ∨ presenceCode b = 0x00) ∧ imageTransport b = s.transport := by
  have hp := h.presence
  have hkey := h.transportAt (off := 0) (n := 16) (by omega)
  have hkcv := h.transportAt (off := 16) (n := 3) (by omega)
  unfold Machine.imageTransport
  cases ht : s.transport with
  | none =>
    rw [ht] at hp
    have hp : presenceCode b = 0x00 := hp
    exact ⟨.inr hp, if_neg (by rw [hp]; decide)⟩
  | some k =>
    obtain ⟨hk16, hk3⟩ := hk k ht
    rw [ht] at hp hkey hkcv
    have hp : presenceCode b = 0x5A := hp
    refine ⟨.inl hp, (if_pos hp).trans (congrArg some ?_)⟩
    have htb : transportBytes (some k) = k.key ++ (k.kcv ++ [0x5A]) := by
      rw [transportBytes, bytesAt_self hk16, bytesAt_self hk3, List.append_assoc]
    have hkey' := bytesAt_middle [] k.key (k.kcv ++ [0x5A])
    have hkcv' := bytesAt_middle k.key k.kcv [0x5A]
    rw [hk16, List.length_nil, List.nil_append, ← htb] at hkey'
    rw [hk16, hk3, List.append_assoc, ← htb] at hkcv'
    rw [show 4 * 33 = 132 + 0 from rfl, show 4 * 37 = 132 + 16 from rfl, hkey, hkcv, hkey', hkcv']

end

/-- Settles O49: the parts of the directory image read back, one by one. -/
theorem directoryImageReadsBack : Obligations.DirectoryImageReadsBack := by
  unfold Obligations.DirectoryImageReadsBack
  intro s b hb hcodes ⟨x, hx, hx0⟩ hk
  have h := HoldsDirectory.of_image hb
  obtain ⟨hpresence, htransport⟩ := h.imageTransport hk
  refine ⟨?_, h.day, htransport, h.imageBindings⟩
  have hnodup : allSlices.Nodup := by decide
  have hfst : ((placesInUse b).map Prod.fst).Nodup := by
    rw [h.placesInUse, List.map_filterMap]
    refine hnodup.filterMap fun m n i hm hn => ?_
    simp only [Option.map_map, Option.mem_def, Option.map_eq_some_iff, Function.comp] at hm hn
    obtain ⟨y, hy, hyi⟩ := hm
    obtain ⟨z, hz, hzi⟩ := hn
    exact hcodes m n y z hy hz (hyi.trans hzi.symm)
  have hsnd : ((placesInUse b).map Prod.snd).Nodup := by
    rw [h.placesInUse, List.map_filterMap]
    refine hnodup.filterMap fun m n i hm hn => ?_
    simp only [Option.map_map, Option.mem_def, Option.map_eq_some_iff, Function.comp] at hm hn
    obtain ⟨_, _, hm⟩ := hm
    obtain ⟨_, _, hn⟩ := hn
    exact Fin.ext (hm.trans hn.symm)
  have hbound : ∀ e ∈ placesInUse b, e.2 < 32 := fun e he => by
    obtain ⟨n, _, _, rfl⟩ := h.mem_places.mp he
    exact n.isLt
  have hzero : ((0 : Half), 0) ∈ placesInUse b := h.mem_places.mpr ⟨0, x, hx, by rw [hx0]; rfl⟩
  simp only [directoryValid, Bool.and_eq_true, Bool.or_eq_true, decide_eq_true_eq, beq_iff_eq,
    List.all_eq_true]
  exact ⟨⟨⟨⟨⟨h.sound, hfst⟩, hsnd⟩, hbound⟩, hzero⟩, hpresence⟩

end Sys2Proof.Machine
end

section
namespace Sys2Proof.Machine

/-! ### The slice image (O50) -/

theorem length_slotRecord (x : Slot) : (slotRecord x).length = 32 := by
  simp [slotRecord, bytesAt, length_leBytes16]

/-- The bytes under the CRC of a slice image. -/
def sliceBytes (s : State) (n : SliceNo) (issuer : Half) : Bytes :=
  leBytes16 issuer ++ [0, 0] ++ (allSlots.flatMap fun k => slotRecord (s.slot n k))
    ++ List.replicate 20 0

theorem allSlots_get (k : SlotNo) : ∃ hl : k.val < allSlots.length, allSlots[k.val] = k := by
  revert k
  decide

section
variable {s : State} {n : SliceNo} {issuer : Half}

theorem length_records : (allSlots.flatMap fun k => slotRecord (s.slot n k)).length = 256 :=
  length_flatMap_blocks (fun k => length_slotRecord (s.slot n k)) _

theorem length_sliceBytes : (sliceBytes s n issuer).length = 280 := by
  simp only [sliceBytes, List.length_append, length_records, length_leBytes16, List.length_replicate,
    List.length_cons, List.length_nil]

theorem sliceBytes_issuer {i : Nat} (h : i < 2) :
    byteAt (sliceBytes s n issuer) i = byteAt (leBytes16 issuer) i := by
  unfold sliceBytes
  simp only [List.append_assoc]
  exact byteAt_append_left _ h

theorem sliceBytes_record (k : SlotNo) {j : Nat} (h : j < 32) :
    byteAt (sliceBytes s n issuer) (recordOffset k + j) = byteAt (slotRecord (s.slot n k)) j := by
  obtain ⟨hl, hk⟩ := allSlots_get k
  have hrec := byteAt_flatMap (f := fun j => slotRecord (s.slot n j))
    (fun j => length_slotRecord (s.slot n j)) hl h
  rw [hk] at hrec
  rw [← hrec, sliceBytes, byteAt_append_left, byteAt_append_right]
  · refine congrArg _ ?_
    simp only [recordOffset, List.length_append, length_leBytes16, List.length_cons, List.length_nil]
    omega
  all_goals
    simp only [recordOffset, List.length_append, length_records, length_leBytes16,
      List.length_cons, List.length_nil]
    omega

end

/-- Sector bytes in which the record of slot `k` is that of `x`. -/
def HoldsRecord (b : Bytes) (k : SlotNo) (x : Slot) : Prop :=
  ∀ j, j < 32 → byteAt b (recordOffset k + j) = byteAt (slotRecord x) j

/-- The parts of a sound slot's record: its fields and its key as they are. -/
theorem slotRecord_of_sound {d : Half} {x : Slot} (h : SlotSound d x) :
    slotRecord x =
      [classCode x, (x.info.map SlotInfo.gen).getD 0, (x.info.map SlotInfo.grace).getD 0, 0]
        ++ leBytes16 ((x.info.map SlotInfo.fromDay).getD 0)
        ++ leBytes16 ((x.info.map SlotInfo.toDay).getD 0)
        ++ bytesAt ((x.key.map KeyCell.value).getD []) 0 16
        ++ bytesAt ((x.key.map KeyCell.kcv).getD []) 0 3 ++ List.replicate 5 0 := by
  have hinfo : (if x.state = .empty then none else x.info) = x.info := by
    split
    next he => exact (h.empty_holds_nothing he).1.symm
    next => rfl
  have hkey : (if x.state = .empty ∨ x.state = .faulty then none else x.key) = x.key := by
    split
    next he => exact (he.elim (fun he => (h.empty_holds_nothing he).2) h.faulty_has_no_key).symm
    next => rfl
  simp only [slotRecord, hinfo, hkey]

section
variable {b : Bytes} {k : SlotNo} {x : Slot} {d : Half} (hr : HoldsRecord b k x)
include hr

theorem HoldsRecord.recordClass : recordClass b k = (classCode x).toNat :=
  congrArg BitVec.toNat (hr 0 (by omega))

theorem HoldsRecord.recordInfo (h : SlotSound d x) {i : SlotInfo} (hi : x.info = some i) :
    recordInfo b k = i := by
  have hx := slotRecord_of_sound h
  rw [hi] at hx
  have hfrom : le16 b (recordOffset k + 4) = i.fromDay := by
    unfold le16
    rw [Nat.add_assoc, hr 4 (by omega), hr (4 + 1) (by omega), hx]
    exact le16_leBytes16 _
  have hto : le16 b (recordOffset k + 6) = i.toDay := by
    unfold le16
    rw [Nat.add_assoc, hr 6 (by omega), hr (6 + 1) (by omega), hx]
    exact le16_leBytes16 _
  unfold Machine.recordInfo
  rw [hfrom, hto, hr 1 (by omega), hr 2 (by omega), hx]
  rfl

theorem HoldsRecord.bytesAt {off n : Nat} (hn : off + n ≤ 32) :
    bytesAt b (recordOffset k + off) n = Machine.bytesAt (slotRecord x) off n :=
  List.map_congr_left fun i hi => by
    have hi := List.mem_range.mp hi
    rw [Nat.add_assoc, hr _ (by omega)]

theorem HoldsRecord.recordKey (h : SlotSound d x) {c : KeyCell} (hc : x.key = some c)
    (he : c.ecc = .clean) (hv : c.value.length = 16) (hk : c.kcv.length = 3) : recordKey b k = c := by
  have hx := slotRecord_of_sound h
  rw [hc, Option.map_some, Option.map_some, Option.getD_some, Option.getD_some, bytesAt_self hv,
    bytesAt_self hk] at hx
  generalize hpre : [classCode x, (x.info.map SlotInfo.gen).getD 0, (x.info.map SlotInfo.grace).getD 0, 0]
    ++ leBytes16 ((x.info.map SlotInfo.fromDay).getD 0)
    ++ leBytes16 ((x.info.map SlotInfo.toDay).getD 0) = pre at hx
  have hlen : pre.length = 8 := by rw [← hpre]; rfl
  have hvalue := bytesAt_middle pre c.value (c.kcv ++ List.replicate 5 0)
  have hkcv := bytesAt_middle (pre ++ c.value) c.kcv (List.replicate 5 0)
  rw [hlen, hv, ← List.append_assoc, ← hx] at hvalue
  rw [List.length_append, hlen, hv, hk, ← hx] at hkcv
  unfold Machine.recordKey
  rw [hr.bytesAt (by omega), hr.bytesAt (by omega), hvalue, hkcv, ← he]

theorem HoldsRecord.recordSlot_of_live (h : SlotSound d x) (hl : x.live = true) :
    recordSlot b d k x.epoch = x := by
  obtain ⟨i, c, hi, hc, he, hv, hk⟩ := h.keyed (by simp [Slot.holdsKey, hl])
  have hcode : classCode x = 0x01 := by
    unfold Slot.live at hl
    unfold classCode
    cases hst : x.state <;> simp only [hst] at hl ⊢ <;> cases hl
  have hclass : Machine.recordClass b k = 1 := hr.recordClass.trans (congrArg BitVec.toNat hcode)
  simp only [recordSlot, hclass, hr.recordInfo h hi, hr.recordKey h hc he hv hk,
    ← h.live_by_day hl i hi, ← hi, ← hc]

theorem HoldsRecord.recordSlot_of_revoked (h : SlotSound d x) (hst : x.state = .revoked) :
    recordSlot b d k x.epoch = x := by
  obtain ⟨i, c, hi, hc, he, hv, hk⟩ := h.keyed (by simp [Slot.holdsKey, hst])
  have hcode : classCode x = 0x02 := by simp only [classCode, hst]
  have hclass : Machine.recordClass b k = 2 := hr.recordClass.trans (congrArg BitVec.toNat hcode)
  simp only [recordSlot, hclass, hr.recordInfo h hi, hr.recordKey h hc he hv hk, ← hst, ← hi, ← hc]

theorem HoldsRecord.recordSlot_of_faulty (h : SlotSound d x) (hst : x.state = .faulty) :
    recordSlot b d k x.epoch = x := by
  have hkey := h.faulty_has_no_key hst
  cases hi : x.info with
  | none =>
    have hcode : classCode x = 0x04 := by simp [classCode, hst, hi]
    have hclass : Machine.recordClass b k = 4 := hr.recordClass.trans (congrArg BitVec.toNat hcode)
    simp only [recordSlot, hclass, ← hst, ← hi, ← hkey]
  | some i =>
    have hcode : classCode x = 0x03 := by simp [classCode, hst, hi]
    have hclass : Machine.recordClass b k = 3 := hr.recordClass.trans (congrArg BitVec.toNat hcode)
    simp only [recordSlot, hclass, hr.recordInfo h hi, ← hst, ← hi, ← hkey]

theorem HoldsRecord.recordSlot_of_empty (h : SlotSound d x) (hst : x.state = .empty) :
    recordSlot b d k x.epoch = x := by
  obtain ⟨hinfo, hkey⟩ := h.empty_holds_nothing hst
  have hcode : classCode x = 0x00 := by simp only [classCode, hst]
  have hclass : Machine.recordClass b k = 0 := hr.recordClass.trans (congrArg BitVec.toNat hcode)
  simp only [recordSlot, hclass, ← hst, ← hinfo, ← hkey]

/-- The record of a sound slot gives the slot back, at the day of its state. -/
theorem HoldsRecord.recordSlot (h : SlotSound d x) : recordSlot b d k x.epoch = x := by
  cases hst : x.state with
  | empty => exact hr.recordSlot_of_empty h hst
  | revoked => exact hr.recordSlot_of_revoked h hst
  | faulty => exact hr.recordSlot_of_faulty h hst
  | staged | active | retiring | expired => exact hr.recordSlot_of_live h (by simp [Slot.live, hst])

theorem HoldsRecord.class_le : Machine.recordClass b k ≤ 4 := by
  rw [hr.recordClass]
  unfold classCode
  generalize x.info.isSome = carries
  cases x.state <;> cases carries <;> decide

end

theorem info_of_recordHasGen {b : Bytes} (d : Half) {k : SlotNo} (e : Half) (h : recordHasGen b k = true) :
    (recordSlot b d k e).info = some (recordInfo b k) := by
  simp only [recordHasGen, Bool.and_eq_true, decide_eq_true_eq] at h
  unfold recordSlot
  split
  next => rfl
  next => rfl
  next => rfl
  next hc => omega
  next h1 h2 h3 _ =>
    change ¬ _ at h1 h2 h3
    omega

/-- Settles O50: the sealed content reads back, and each record gives its slot. -/
theorem sliceImageReadsBack : Obligations.SliceImageReadsBack := by
  unfold Obligations.SliceImageReadsBack
  intro s n code b hb hlaw hsound
  obtain ⟨hseal, hbytes⟩ := imageSound_of_seal (n := 70) (c := sliceBytes s n code) length_sliceBytes hb
  have hrec : ∀ k, HoldsRecord b k (s.slot n k) := fun k j hj =>
    (hbytes _ (by simp only [recordOffset]; omega)).trans (sliceBytes_record k hj)
  have hslot : ∀ k, recordSlot b s.currentDay k (s.slot n k).epoch = s.slot n k :=
    fun k => (hrec k).recordSlot (hsound k)
  refine ⟨?_, hslot⟩
  have hissuer : le16 b 0 = code := by
    unfold le16
    rw [hbytes _ (by omega), hbytes _ (by omega), sliceBytes_issuer (by omega),
      sliceBytes_issuer (by omega)]
    exact le16_leBytes16 _
  have hdays : ∀ k, recordHasGen b k = true →
      (recordInfo b k).fromDay.toNat ≤ (recordInfo b k).toDay.toNat
      ∧ (recordInfo b k).grace.toNat ≤ 60 := fun k hg => by
    have hi := info_of_recordHasGen s.currentDay (s.slot n k).epoch hg
    rw [hslot k] at hi
    exact (hsound k).days_ordered _ hi
  have hgens : (allSlots.filter (recordHasGen b)).map (fun k => (recordInfo b k).gen) = s.genList n := by
    rw [← List.filterMap_eq_map, List.filterMap_filter]
    refine List.filterMap_congr fun k _ => ?_
    split
    next hg => rw [← hslot k, gen_of_recordHasGen _ _ hg]; rfl
    next hg =>
      refine (Option.eq_none_iff_forall_ne_some.mpr fun g hk => hg ?_).symm
      rw [← hslot k] at hk
      exact (recordSlot_gen hk).1
  simp only [sliceValid, Bool.and_eq_true, beq_iff_eq, List.all_eq_true, decide_eq_true_eq,
    Bool.or_eq_true, Bool.not_eq_true']
  refine ⟨⟨⟨⟨hseal, hissuer⟩, fun k _ => (hrec k).class_le⟩, fun k _ => ?_⟩, hgens ▸ hlaw⟩
  cases hg : recordHasGen b k with
  | false => exact .inl rfl
  | true => exact .inr (hdays k hg)

end Sys2Proof.Machine
end

section
namespace Sys2Proof.Machine

/-! ## Load steps 4 and 5 (O53) -/

/-! ### The next slice and the next key -/

section
variable {s : State}

/-- The least bound slice above the last one read is read next. -/
theorem loadNextSlice_reads {last : Option SliceNo} {m : SliceNo} (hm : s.binding m ≠ none)
    (hlast : ∀ n, last = some n → n.val < m.val)
    (hleast : ∀ j, (∀ n, last = some n → n.val < j.val) → s.binding j ≠ none → m.val ≤ j.val) :
    loadNextSlice last s =
      { s with load := some { step := .sliceRead m, stepEnd := s.gt + 40 } } := by
  have hnext : s.nextBound last = some m := by
    refine find?_eq_of_least (key := Fin.val) allSlices_pairwise (mem_allSlices m) ?_ fun j _ hj => ?_
    · cases last with
      | none => simpa using Option.isSome_iff_ne_none.mpr hm
      | some n => simpa [hlast n rfl] using Option.isSome_iff_ne_none.mpr hm
    · cases last with
      | none => exact hleast j nofun (Option.isSome_iff_ne_none.mp (by simpa using hj))
      | some n =>
        have hj : n.val < j.val ∧ (s.binding j).isSome = true := by simpa using hj
        exact hleast j (fun n' hn => by cases hn; exact hj.1) (Option.isSome_iff_ne_none.mp hj.2)
  rw [loadNextSlice, hnext]
  rfl

/-- After the last bound slice the load ends. -/
theorem loadNextSlice_ends {n : SliceNo} (h : ∀ m, n.val < m.val → s.binding m = none) :
    loadNextSlice (some n) s = { s with load := none, device := .stopped } := by
  have hnext : s.nextBound (some n) = none := by
    refine List.find?_eq_none.mpr fun m _ hm => ?_
    have hm : n.val < m.val ∧ (s.binding m).isSome = true := by simpa using hm
    rw [h m hm.1] at hm
    exact absurd hm.2 nofun
  rw [loadNextSlice, hnext]
  rfl

/-- The least slot above the last one checked that holds a key is checked next. -/
theorem loadNextKey_checks {n : SliceNo} {last : Option SlotNo} {k : SlotNo}
    (hk : (s.slot n k).key ≠ none) (hlast : ∀ m, last = some m → m.val < k.val)
    (hleast : ∀ j, (s.slot n j).key ≠ none → j.val < k.val → ∃ m, last = some m ∧ j.val ≤ m.val) :
    loadNextKey n last s =
      { s with load := some { step := .kcvCheck n k, stepEnd := s.gt + 5 } } := by
  have hnext : s.nextKeyed n last = some k := by
    refine find?_eq_of_least (key := Fin.val) allSlots_pairwise (mem_allSlots k) ?_ fun j _ hj => ?_
    · cases last with
      | none => simpa using Option.isSome_iff_ne_none.mpr hk
      | some m => simpa [hlast m rfl] using Option.isSome_iff_ne_none.mpr hk
    · by_contra hlt
      cases last with
      | none =>
        obtain ⟨m, hm, _⟩ := hleast j (Option.isSome_iff_ne_none.mp (by simpa using hj)) (by omega)
        cases hm
      | some l =>
        have hj : l.val < j.val ∧ (s.slot n j).key.isSome = true := by simpa using hj
        obtain ⟨m, hm, hle⟩ := hleast j (Option.isSome_iff_ne_none.mp hj.2) (by omega)
        cases hm
        omega
  rw [loadNextKey, hnext]
  rfl

/-- With no key left to check the load goes on to the next slice. -/
theorem loadNextKey_done {n : SliceNo} {last : Option SlotNo}
    (h : ∀ k, (s.slot n k).key ≠ none → ∃ m, last = some m ∧ k.val ≤ m.val) :
    loadNextKey n last s = loadNextSlice (some n) s := by
  have hnext : s.nextKeyed n last = none := by
    refine List.find?_eq_none.mpr fun k _ hk => ?_
    cases last with
    | none =>
      obtain ⟨m, hm, _⟩ := h k (Option.isSome_iff_ne_none.mp (by simpa using hk))
      cases hm
    | some l =>
      have hk : l.val < k.val ∧ (s.slot n k).key.isSome = true := by simpa using hk
      obtain ⟨m, hm, hle⟩ := h k (Option.isSome_iff_ne_none.mp hk.2)
      cases hm
      omega
  rw [loadNextKey, hnext]

end

/-! ### The ends of the load's reads and checks -/

theorem imageBindings_station {b : Bytes} (h : directoryValid b = true) : (imageBindings b)[0] ≠ none := by
  obtain ⟨c, hc, _⟩ :=
    (DirectoryLaw.of_image (s := { State.reset with directory := imageBindings b }) h rfl).station_bound
      (show DeviceState.loading ≠ .zeroized by decide)
  change (imageBindings b)[(0 : SliceNo)] = some c at hc
  intro hn
  exact absurd (hc.symm.trans hn) nofun

theorem loadNextSlice_first {t : State} (h : t.binding 0 ≠ none) :
    loadNextSlice none t = { t with load := some { step := .sliceRead 0, stepEnd := t.gt + 40 } } :=
  loadNextSlice_reads (last := none) h nofun fun j _ _ => Nat.zero_le j.val

theorem baseDirectory_station : baseDirectory[0] ≠ none := by decide

section
variable {e : Word} {s : State} (hgt : 0 ≤ (e - s.gt).toInt)
include hgt

theorem exec_directoryImageReadEnd (hload : s.load = some { step := .directoryRead, stepEnd := e }) :
    (directoryValid (readSector s.nvm 2) = true →
      exec .directoryImageReadEnd s = .next { s with
        gt := e, load := some { step := .sliceRead 0, stepEnd := e + 40 }
        currentDay := le16 (readSector s.nvm 2) 0
        directory := imageBindings (readSector s.nvm 2), dirDirty := false
        transport := imageTransport (readSector s.nvm 2) })
    ∧ (directoryValid (readSector s.nvm 2) = false →
      exec .directoryImageReadEnd s = .next { s with
        gt := e, load := some { step := .sliceRead 0, stepEnd := e + 40 }
        currentDay := 0, directory := baseDirectory, dirDirty := false, transport := none
        directoryLost := true }) := by
  change (_ → execDirectoryImageReadEnd s = _) ∧ (_ → execDirectoryImageReadEnd s = _)
  unfold execDirectoryImageReadEnd
  rw [loadAt_of_load hgt hload]
  dsimp only
  generalize readSector s.nvm 2 = b
  refine ⟨fun hv => ?_, fun hv => ?_⟩
  · refine (if_pos hv).trans (congrArg _ ?_)
    exact loadNextSlice_first (imageBindings_station hv)
  · refine (if_neg (ne_true_of_eq_false hv)).trans (congrArg _ ?_)
    exact loadNextSlice_first baseDirectory_station

theorem exec_sliceImageReadEnd {n : SliceNo} (hload : s.load = some { step := .sliceRead n, stepEnd := e }) :
    exec .sliceImageReadEnd s = .next (takeSlice n { s with gt := e }) := by
  change execSliceImageReadEnd s = _
  simp only [execSliceImageReadEnd, hload, runTo_of_ahead s e hgt]

theorem exec_kcvCheckEnd {n : SliceNo} {k : SlotNo}
    (hload : s.load = some { step := .kcvCheck n k, stepEnd := e }) :
    exec .kcvCheckEnd s = .next (checkKcv n k { s with gt := e }) := by
  change execKcvCheckEnd s = _
  simp only [execKcvCheckEnd, hload, runTo_of_ahead s e hgt]

end

end Sys2Proof.Machine
end

section
namespace Sys2Proof.Machine

theorem takeSlice_valid {n : SliceNo} {b : Bytes} {t : State} (hb : b = readSector t.nvm (3 + n.val))
    (hv : sliceValid b (t.issuerOf n) = true) :
    takeSlice n t = loadNextKey n none (loadSlice n b t) := by
  have hs : readSector t.nvm (sliceSector n) = b := hb.symm
  rw [takeSlice, hs, if_pos hv]

theorem takeSlice_invalid {n : SliceNo} {b : Bytes} {t : State} (hb : b = readSector t.nvm (3 + n.val))
    (hv : sliceValid b (t.issuerOf n) = false) :
    takeSlice n t = loadNextSlice (some n) (blankSlice n t) := by
  have hs : readSector t.nvm (sliceSector n) = b := hb.symm
  rw [takeSlice, hs, if_neg (ne_true_of_eq_false hv)]

section
variable {e : Word} {s : State} (hgt : 0 ≤ (e - s.gt).toInt)
include hgt

/-- The end of a slice's read: its image's slots, or 8 FAULTY slots without a generation. -/
theorem exec_sliceImageReadEnd_slots {n : SliceNo} {c : Binding} {b : Bytes}
    (hload : s.load = some { step := .sliceRead n, stepEnd := e }) (hc : s.binding n = some c)
    (hb : b = readSector s.nvm (3 + n.val)) :
    ∃ slices' : Vector (Vector Slot 8) 32, (∀ m k, m ≠ n → (slices'[m])[k] = s.slot m k)
      ∧ (sliceValid b c.issuer = true →
        (∀ k : SlotNo, (slices'[n])[k] = recordSlot b s.currentDay k (s.slot n k).epoch)
        ∧ exec .sliceImageReadEnd s = .next (loadNextKey n none { s with gt := e, slices := slices' }))
      ∧ (sliceValid b c.issuer = false →
        (∀ k : SlotNo, (slices'[n])[k] =
          { state := .faulty, info := none, key := none, epoch := (s.slot n k).epoch })
        ∧ exec .sliceImageReadEnd s =
            .next (loadNextSlice (some n) { s with gt := e, slices := slices' })) := by
  have hissuer : ({ s with gt := e } : State).issuerOf n = c.issuer := by
    change ((s.binding n).map Binding.issuer).getD 0 = c.issuer
    rw [hc]
    rfl
  rw [exec_sliceImageReadEnd hgt hload]
  cases hv : sliceValid b c.issuer with
  | true =>
    have htake := takeSlice_valid (t := { s with gt := e }) hb (by rw [hissuer, hv])
    refine ⟨(loadSlice n b { s with gt := e }).slices, fun m k hm => ?_,
      fun _ => ⟨fun k => ?_, congrArg _ htake⟩, nofun⟩
    · exact (loadSlice_slot n m k b { s with gt := e }).trans (if_neg hm)
    · exact (loadSlice_slot n n k b { s with gt := e }).trans (if_pos rfl)
  | false =>
    have htake := takeSlice_invalid (t := { s with gt := e }) hb (by rw [hissuer, hv])
    refine ⟨(blankSlice n { s with gt := e }).slices, fun m k hm => ?_, nofun,
      fun _ => ⟨fun k => ?_, congrArg _ htake⟩⟩
    · exact (blankSlice_slot n m k { s with gt := e }).trans (if_neg hm)
    · exact (blankSlice_slot n n k { s with gt := e }).trans (if_pos rfl)

/-- The end of a KCV check: the key agrees, or its slot becomes FAULTY and is reported. -/
theorem exec_kcvCheckEnd_slots {n : SliceNo} {k : SlotNo} {y : KeyCell}
    (hload : s.load = some { step := .kcvCheck n k, stepEnd := e }) (hy : (s.slot n k).key = some y) :
    ((blockE y.value (List.replicate 16 0)).take 3 = y.kcv →
      exec .kcvCheckEnd s = .next (loadNextKey n (some k) { s with gt := e }))
    ∧ ((blockE y.value (List.replicate 16 0)).take 3 ≠ y.kcv →
      ∃ slices' : Vector (Vector Slot 8) 32, exec .kcvCheckEnd s = .next (loadNextKey n (some k)
          (raiseReport
            { cls := .uncorrectedEcc, lane := none, slice := some n, slot := some k }
            { s with gt := e, slices := slices' }))
        ∧ (slices'[n])[k] = { s.slot n k with state := .faulty, key := none }
        ∧ ∀ m j, (m, j) ≠ (n, k) → (slices'[m])[j] = s.slot m j) := by
  have hmatch : kcvMatches (({ s with gt := e } : State).slot n k)
      = ((blockE y.value (List.replicate 16 0)).take 3 == y.kcv) := by
    change kcvMatches (s.slot n k) = _
    rw [kcvMatches, hy]
    rfl
  rw [exec_kcvCheckEnd hgt hload, checkKcv, hmatch]
  refine ⟨fun h => ?_, fun h => ?_⟩
  · rw [if_pos (beq_iff_eq.mpr h)]
  · obtain ⟨hslot, hother⟩ := setSlot_slices { s with gt := e } n k
      { s.slot n k with state := .faulty, key := none }
    rw [if_neg fun hk => h (beq_iff_eq.mp hk)]
    exact ⟨_, rfl, hslot, hother⟩

end

end Sys2Proof.Machine
end

section
namespace Sys2Proof.Machine

/-! ### When an image is valid -/

/-- A directory image is sound, with the offsets of its CRC and its mark written out. -/
theorem directorySound_iff (b : Bytes) : imageSound b 78 = true ↔
    le32 b 316 = 0x6A3C5A96 ∧ crc32 (b.take 312) = le32 b 312 := by
  rw [imageSound, Bool.and_eq_true, beq_iff_eq, beq_iff_eq]
  rfl

theorem sliceSound_iff (b : Bytes) : imageSound b 70 = true ↔
    le32 b 284 = 0x6A3C5A96 ∧ crc32 (b.take 280) = le32 b 280 := by
  rw [imageSound, Bool.and_eq_true, beq_iff_eq, beq_iff_eq]
  rfl

/-- What entry place `p` gives. -/
def placeEntry (b : Bytes) (p : Nat) : Option (Half × Nat) :=
  if byteAt b (4 * p + 7) = 0xA5 then some (le16 b (4 * p + 4), (byteAt b (4 * p + 6)).toNat) else none

theorem placesInUse_eq (b : Bytes) : placesInUse b = (List.range 32).filterMap (placeEntry b) := rfl

theorem placeEntry_eq_some {b : Bytes} {p : Nat} {e : Half × Nat} : placeEntry b p = some e ↔
    byteAt b (4 * p + 7) = 0xA5 ∧ e = (le16 b (4 * p + 4), (byteAt b (4 * p + 6)).toNat) := by
  unfold placeEntry
  split
  next h => simp [h, eq_comm]
  next h => exact ⟨nofun, fun he => absurd he.1 h⟩

theorem mem_placesInUse {b : Bytes} {e : Half × Nat} : e ∈ placesInUse b ↔
    ∃ p, p < 32 ∧ byteAt b (4 * p + 7) = 0xA5
      ∧ e = (le16 b (4 * p + 4), (byteAt b (4 * p + 6)).toNat) := by
  simp only [placesInUse_eq, List.mem_filterMap, List.mem_range, placeEntry_eq_some]

theorem pairwise_range_iff {R : Nat → Nat → Prop} {n : Nat} :
    (List.range n).Pairwise R ↔ ∀ p q, p < q → q < n → R p q := by
  rw [List.pairwise_iff_getElem]
  simp only [List.length_range, List.getElem_range]
  exact ⟨fun h p q hpq hq => h p q (hpq.trans hq) hq hpq, fun h p q _ hq hpq => h p q hpq hq⟩

/-- The places in use differ in what `f` gives of them. -/
theorem nodup_places_iff {β : Type} (b : Bytes) (f : Half × Nat → β) :
    ((placesInUse b).map f).Nodup ↔ ∀ p q, p < q → q < 32 → byteAt b (4 * p + 7) = 0xA5 →
      byteAt b (4 * q + 7) = 0xA5 →
      f (le16 b (4 * p + 4), (byteAt b (4 * p + 6)).toNat)
        ≠ f (le16 b (4 * q + 4), (byteAt b (4 * q + 6)).toNat) := by
  rw [List.Nodup, List.pairwise_map, placesInUse_eq, List.pairwise_filterMap, pairwise_range_iff]
  simp only [placeEntry_eq_some]
  exact ⟨fun h p q hpq hq hp hq' => h p q hpq hq _ ⟨hp, rfl⟩ _ ⟨hq', rfl⟩,
    fun h p q hpq hq _ ⟨hp, he⟩ _ ⟨hq', he'⟩ => he ▸ he' ▸ h p q hpq hq hp hq'⟩

theorem directoryValid_iff (b : Bytes) : directoryValid b = true ↔
    le32 b 316 = 0x6A3C5A96 ∧ crc32 (b.take 312) = le32 b 312
    ∧ (∀ p, p < 32 → byteAt b (4 * p + 7) = 0xA5 → (byteAt b (4 * p + 6)).toNat < 32)
    ∧ (∀ p q, p < q → q < 32 → byteAt b (4 * p + 7) = 0xA5 → byteAt b (4 * q + 7) = 0xA5 →
        le16 b (4 * p + 4) ≠ le16 b (4 * q + 4) ∧ byteAt b (4 * p + 6) ≠ byteAt b (4 * q + 6))
    ∧ (∃ p, p < 32 ∧ byteAt b (4 * p + 7) = 0xA5 ∧ le16 b (4 * p + 4) = 0
        ∧ byteAt b (4 * p + 6) = 0)
    ∧ (byteAt b 151 = 0x5A ∨ byteAt b 151 = 0x00) := by
  have hrange : (∀ e ∈ placesInUse b, e.2 < 32) ↔
      ∀ p, p < 32 → byteAt b (4 * p + 7) = 0xA5 → (byteAt b (4 * p + 6)).toNat < 32 := by
    simp only [mem_placesInUse]
    exact ⟨fun h p hp hu => h _ ⟨p, hp, hu, rfl⟩, fun h e ⟨p, hp, hu, he⟩ => he ▸ h p hp hu⟩
  have hzero : ((0 : Half), 0) ∈ placesInUse b ↔
      ∃ p, p < 32 ∧ byteAt b (4 * p + 7) = 0xA5 ∧ le16 b (4 * p + 4) = 0
        ∧ byteAt b (4 * p + 6) = 0 := by
    simp only [mem_placesInUse, Prod.mk.injEq]
    refine exists_congr fun p => and_congr_right fun _ => and_congr_right fun _ => ?_
    exact and_congr eq_comm (eq_comm.trans ⟨fun h => BitVec.eq_of_toNat_eq h, fun h => by rw [h]; rfl⟩)
  have hdistinct : ((placesInUse b).map Prod.fst).Nodup ∧ ((placesInUse b).map Prod.snd).Nodup ↔
      ∀ p q, p < q → q < 32 → byteAt b (4 * p + 7) = 0xA5 → byteAt b (4 * q + 7) = 0xA5 →
        le16 b (4 * p + 4) ≠ le16 b (4 * q + 4) ∧ byteAt b (4 * p + 6) ≠ byteAt b (4 * q + 6) := by
    rw [nodup_places_iff, nodup_places_iff]
    exact ⟨fun ⟨h, g⟩ p q hpq hq hp hq' =>
        ⟨h p q hpq hq hp hq', fun he => g p q hpq hq hp hq' (congrArg BitVec.toNat he)⟩,
      fun h => ⟨fun p q hpq hq hp hq' => (h p q hpq hq hp hq').1,
        fun p q hpq hq hp hq' he => (h p q hpq hq hp hq').2 (BitVec.eq_of_toNat_eq he)⟩⟩
  have hvalid : directoryValid b = true ↔ ((((imageSound b 78 = true
      ∧ ((placesInUse b).map Prod.fst).Nodup) ∧ ((placesInUse b).map Prod.snd).Nodup)
      ∧ ∀ e ∈ placesInUse b, e.2 < 32) ∧ ((0 : Half), 0) ∈ placesInUse b)
      ∧ (presenceCode b = 0x5A ∨ presenceCode b = 0x00) := by
    simp only [directoryValid, Bool.and_eq_true, Bool.or_eq_true, decide_eq_true_eq, beq_iff_eq,
      List.all_eq_true]
  rw [hvalid, directorySound_iff, hrange, hzero, ← hdistinct]
  exact ⟨fun ⟨⟨⟨⟨⟨⟨hm, hc⟩, hf⟩, hs⟩, hr⟩, hz⟩, hp⟩ => ⟨hm, hc, hr, ⟨hf, hs⟩, hz, hp⟩,
    fun ⟨hm, hc, hr, ⟨hf, hs⟩, hz, hp⟩ => ⟨⟨⟨⟨⟨⟨hm, hc⟩, hf⟩, hs⟩, hr⟩, hz⟩, hp⟩⟩

/-! ### The slice image -/

theorem recordHasGen_iff (b : Bytes) (k : SlotNo) : recordHasGen b k = true ↔
    1 ≤ (byteAt b (4 + 32 * k.val)).toNat ∧ (byteAt b (4 + 32 * k.val)).toNat ≤ 3 := by
  simp only [recordHasGen, Bool.and_eq_true, decide_eq_true_eq]
  rfl

/-- The fields of a slot's record at their offsets in the sector. -/
theorem recordInfo_eq (b : Bytes) (k : SlotNo) : recordInfo b k =
    { gen := byteAt b (5 + 32 * k.val), grace := byteAt b (6 + 32 * k.val)
      fromDay := le16 b (8 + 32 * k.val), toDay := le16 b (10 + 32 * k.val) } := by
  have hoff : ∀ j, recordOffset k + j = 4 + j + 32 * k.val := fun j => by
    simp only [recordOffset]; omega
  simp only [recordInfo, hoff]

/-- The generation law of the generations that a list of slots carries. -/
theorem genLaw_carried_iff (p : SlotNo → Bool) (gen : SlotNo → Byte) :
    genLaw ((allSlots.filter p).map gen) = true ↔
      (∀ j k, j ≠ k → p j = true → p k = true → gen j ≠ gen k)
      ∧ ((∃ k, p k = true) → ∃ o, p o = true ∧ ∀ k, p k = true → (gen k - gen o).toNat ≤ 127) := by
  have hmem : ∀ k, k ∈ allSlots.filter p ↔ p k = true := fun k => by simp [mem_allSlots]
  have hnodup : (allSlots.filter p).Nodup := allSlots_nodup.filter p
  rw [genLaw_iff, List.nodup_map_iff_inj_on hnodup]
  refine and_congr ⟨fun h j k hne hj hk he => ?_, fun h j hj k hk he => ?_⟩
    ⟨fun h ⟨k, hk⟩ => ?_, fun h => ?_⟩
  · exact hne (h j ((hmem j).mpr hj) k ((hmem k).mpr hk) he)
  · by_contra hne
    exact h j k hne ((hmem j).mp hj) ((hmem k).mp hk) he
  · rcases h with hnil | ⟨o, ho, hall⟩
    · exact absurd (List.map_eq_nil_iff.mp hnil ▸ (hmem k).mpr hk) List.not_mem_nil
    · obtain ⟨j, hj, rfl⟩ := List.mem_map.mp ho
      exact ⟨j, (hmem j).mp hj, fun i hi => hall _ (List.mem_map_of_mem ((hmem i).mpr hi))⟩
  · by_cases hk : ∃ k, p k = true
    · obtain ⟨o, ho, hall⟩ := h hk
      refine .inr ⟨gen o, List.mem_map_of_mem ((hmem o).mpr ho), fun y hy => ?_⟩
      obtain ⟨k, hk, rfl⟩ := List.mem_map.mp hy
      exact hall k ((hmem k).mp hk)
    · refine .inl (List.map_eq_nil_iff.mpr (List.eq_nil_iff_forall_not_mem.mpr fun k hm => ?_))
      exact hk ⟨k, (hmem k).mp hm⟩

theorem sliceValid_iff {b : Bytes} {code : Half} {carries : SlotNo → Prop} {gen : SlotNo → Byte}
    (hcarries : ∀ k : SlotNo, carries k ↔
      1 ≤ (byteAt b (4 + 32 * k.val)).toNat ∧ (byteAt b (4 + 32 * k.val)).toNat ≤ 3)
    (hgen : ∀ k : SlotNo, gen k = byteAt b (5 + 32 * k.val)) :
    sliceValid b code = true ↔
      le32 b 284 = 0x6A3C5A96 ∧ crc32 (b.take 280) = le32 b 280 ∧ le16 b 0 = code
      ∧ (∀ k : SlotNo, (byteAt b (4 + 32 * k.val)).toNat ≤ 4)
      ∧ (∀ k, carries k → (le16 b (8 + 32 * k.val)).toNat ≤ (le16 b (10 + 32 * k.val)).toNat
          ∧ (byteAt b (6 + 32 * k.val)).toNat ≤ 60)
      ∧ (∀ j k, j ≠ k → carries j → carries k → gen j ≠ gen k)
      ∧ ((∃ k, carries k) →
          ∃ o, carries o ∧ ∀ k, carries k → (gen k - gen o).toNat ≤ 127) := by
  have hhas : ∀ k, recordHasGen b k = true ↔ carries k := fun k =>
    (recordHasGen_iff b k).trans (hcarries k).symm
  have hclass : ∀ k, recordClass b k = (byteAt b (4 + 32 * k.val)).toNat := fun _ => rfl
  have himp : ∀ k (P : Prop), (¬ carries k ∨ P) ↔ (carries k → P) := fun k P => imp_iff_not_or.symm
  simp only [sliceValid, Bool.and_eq_true, Bool.or_eq_true, decide_eq_true_eq, beq_iff_eq,
    List.all_eq_true, sliceSound_iff, mem_allSlots, true_imp_iff, Bool.not_eq_true', hgen,
    genLaw_carried_iff, hhas, ← Bool.not_eq_true, himp, hclass, recordInfo_eq, and_assoc]

end Sys2Proof.Machine
end

section
namespace Sys2Proof.Machine

/-! ### A commit that has failed -/

theorem directoryInvalid_of_mark {m : List Host.Cell} (h : nvmWord m 2 79 ≠ commitMark) :
    directoryValid (readSector m 2) = false := by
  refine Bool.eq_false_iff.mpr fun hv => h ?_
  obtain ⟨hmark, _⟩ := (directoryValid_iff _).mp hv
  exact (le32_readSector m 2 (k := 79) (by omega)).symm.trans hmark

theorem sliceInvalid_of_mark {m : List Host.Cell} {sec : Nat} (h : nvmWord m sec 71 ≠ commitMark)
    (code : Half) : sliceValid (readSector m sec) code = false := by
  refine Bool.eq_false_iff.mpr fun hv => h ?_
  obtain ⟨hmark, _⟩ := (sliceValid_iff (fun _ => Iff.rfl) (fun _ => rfl)).mp hv
  exact (le32_readSector m sec (k := 71) (by omega)).symm.trans hmark

theorem spoilEnds_nvm (r : NvmRecord) (c : CommitOp) (failWord : Option Nat) (s : State) :
    (spoilEnds r c failWord s).nvm = s.nvm :=
  (commitEntry_array c _ _ _).nvm.trans (raiseReport_array _ s).nvm

/-- Neither end of a spoiling program leaves the commit mark. -/
theorem spoilArray_mark {s : State} (hwf : nvmWf s.nvm = true) (x : NvmEnd) (c : CommitOp) :
    nvmWord (spoilArray x c s).nvm (targetSector c.target) (markWordOf (targetSector c.target))
      ≠ commitMark := by
  cases x with
  | success =>
    have hzero := (nvmWord_programWord hwf (targetSector c.target)
      (markWordOf (targetSector c.target)) 0).trans BitVec.and_zero
    exact fun h => absurd (hzero.symm.trans h) (by decide)
  | failure => exact nvmWord_spoilWordPart_ne hwf _ _

theorem exec_coldReset_nvm {s t : State} (h : exec .coldReset s = .next t) : t.nvm = (cutNvm s).nvm := by
  rw [exec_coldReset] at h
  cases h
  split
  · rw [tamperAssertion_coldResetState]
    rfl
  · rfl

/-- After a failed commit the mark word of the target's sector is not the commit mark. -/
theorem mark_of_failed_commit {o : NvmRecord} {c : CommitOp} {k : Option Nat} {command : Instr}
    {s t : State} (hop : s.nvmOp = some o) (hc : o.op = .commit c) (hst : c.step = .spoil k)
    (hwf : nvmWf s.nvm = true) (hcmd : command = .coldReset ∨ ∃ x, command = .spoilProgramEnd x)
    (ht : exec command s = .next t) :
    nvmWord t.nvm (targetSector c.target) (markWordOf (targetSector c.target)) ≠ commitMark := by
  rcases hcmd with rfl | ⟨x, rfl⟩
  · have hcut : t.nvm = spoilWordPart s.nvm (targetSector c.target) (Config.freeMask s.freeIndex) := by
      rw [exec_coldReset_nvm ht]
      simp only [cutNvm, hop, hc, cutArray, hst]
    rw [hcut]
    exact nvmWord_spoilWordPart_ne hwf _ _
  · rw [exec_spoilProgramEnd_runTo hop hc hst] at ht
    cases ht
    rw [spoilEnds_nvm]
    exact spoilArray_mark (s := s.runTo o.stepEnd) hwf x c

/-- Settles O53: each end of a read or a check, the choice of the next, and the two validity tests. -/
theorem imagesLoaded : Obligations.ImagesLoaded := by
  unfold Obligations.ImagesLoaded
  refine ⟨fun e s hgt => ⟨fun hload => exec_directoryImageReadEnd hgt hload,
      fun n b c hload hc hb => exec_sliceImageReadEnd_slots hgt hload hc hb,
      fun n k y hload hy => exec_kcvCheckEnd_slots hgt hload hy,
      fun n last h => loadNextKey_done h,
      fun n last k hk hlast hleast => loadNextKey_checks hk hlast hleast,
      fun n h => loadNextSlice_ends h, fun n m hlt hm hnone => ?_⟩,
    directoryValid_iff, fun b code carries gen hcarries hgen => sliceValid_iff hcarries hgen,
    fun o c k command s t hop hc hst hwf hcmd ht => ?_⟩
  · refine loadNextSlice_reads hm (fun l hl => by cases hl; exact hlt) fun j hj hb => ?_
    by_contra hlt
    exact hb (hnone j (hj n rfl) (by omega))
  · have hmark := mark_of_failed_commit hop hc hst hwf hcmd ht
    refine ⟨fun htarget => ?_, fun n code code' htarget => ?_⟩ <;> rw [htarget] at hmark
    · exact directoryInvalid_of_mark hmark
    · have hm : markWordOf (3 + n.val) = 71 := if_neg (by omega)
      change nvmWord t.nvm (3 + n.val) (markWordOf (3 + n.val)) ≠ _ at hmark
      rw [hm] at hmark
      exact sliceInvalid_of_mark hmark code'

end Sys2Proof.Machine
end

section
namespace Sys2Proof.Machine

/-! ## The log at a report (R147) -/

/-- A report comes to the log on every route. -/
theorem raiseReport_errorLog (r : Report) (s : State) :
    (raiseReport r s).errorLog = some (logReport r s.gt s.errorLog) := by
  rcases raiseReport_cases r s with h | h | ⟨_, _, h⟩ <;> rw [h]
  · rfl
  · rfl
  · rw [enterFaulted_eq]
    rfl

/-- The first row of R147: an empty log, or a record of lower severity, is written from the report. -/
theorem logReport_writes {r : Report} {now : Word} {log : Option LogRecord}
    (h : log = none ∨ ∃ old, log = some old ∧ severity old.cls < severity r.cls) :
    logReport r now log =
      { cls := r.cls, lane := r.lane, slice := r.slice, slot := r.slot, gt := now, further := 0 } := by
  rcases h with rfl | ⟨old, rfl, hlower⟩
  · rfl
  · exact if_pos hlower

/-- A record of an equal or higher severity is kept and counts the report, up to 255. -/
theorem logReport_counts {r : Report} {now : Word} {old : LogRecord}
    (h : severity r.cls ≤ severity old.cls) :
    logReport r now (some old) = { old with further := min (old.further + 1) 255 } :=
  if_neg h.not_gt

/-- Settles O12: the log's own rows, which every route applies. -/
theorem logRecordsMostSevere : Obligations.LogRecordsMostSevere := by
  unfold Obligations.LogRecordsMostSevere
  intro r s
  rw [raiseReport_errorLog]
  refine ⟨fun hwrites => congrArg some (logReport_writes hwrites), fun old hold hkept => ?_⟩
  rw [hold, logReport_counts hkept]
  refine ⟨fun hlt => ?_, fun hfull => ?_⟩
  · rw [Nat.min_eq_left (by omega)]
  · rw [Nat.min_eq_right (by omega), ← hfull]

/-! ## Tamper assertions without a new response, and the release (R153 to R155) -/

/-- An input already asserted gives no assertion (R153). -/
theorem exec_tamperAssert_asserted {s : State} (hp : s.tamperPin = true) :
    exec .tamperAssert s = .next s := by
  show execTamperAssert s = _
  rw [execTamperAssert, if_pos hp]

/-- A released input that is asserted gives an assertion in every device state (R153). -/
theorem exec_tamperAssert_released {s : State} (hp : s.tamperPin = false) :
    exec .tamperAssert s = .next (tamperAssertion { s with tamperPin := true }) := by
  show execTamperAssert s = _
  rw [execTamperAssert, hp, if_neg Bool.false_ne_true]

theorem tamperAssertion_zeroized {s : State} (h : s.device = .zeroized) : tamperAssertion s = s := by
  unfold tamperAssertion
  rw [h]

/-- Where a response stands already, an assertion is reported and no more (R154, R155). -/
theorem tamperAssertion_reports {s : State}
    (h : s.device = .zeroizing ∨ (s.device = .faulted ∧ s.tamperFault = true)) :
    tamperAssertion s = raiseReport tamperReport s := by
  unfold tamperAssertion
  rcases h with h | ⟨h, hfault⟩
  · rw [h]
  · simp only [h, hfault, if_true]

/-- Settles O11, by the device state in which the assertion comes. -/
theorem tamperWithoutResponse : Obligations.TamperWithoutResponse := by
  unfold Obligations.TamperWithoutResponse
  refine fun s => ⟨exec_tamperAssert_asserted, fun hp hd => ?_, fun hp hd => ?_, rfl⟩
  · rw [exec_tamperAssert_released hp, tamperAssertion_zeroized (s := { s with tamperPin := true }) hd]
  · rw [exec_tamperAssert_released hp, tamperAssertion_reports (s := { s with tamperPin := true }) hd]
    exact ⟨_, rfl, rfl, raiseReport_tamper _, by rw [raiseReport_errorLog]; rfl⟩

/-! ## LOG_READ (R149) -/

theorem exec_logRead {h : ServiceRequest} {rest : List ServiceRequest} {s : State}
    (ha : Arrived .logRead h rest s) :
    exec .logRead s = .next (finish h .ok [fLog s.errorLog s.errorFlags] s) :=
  congrArg _ (onHead_of_arrived ha _)

theorem laneByte_eq (l : Option LaneNo) :
    laneByte l = (l.map fun l => BitVec.ofNat 8 l.val).getD 0xFF := by
  cases l <;> rfl

theorem sliceByte_eq (n : Option SliceNo) :
    sliceByte n = (n.map fun n => BitVec.ofNat 8 n.val).getD 0xFF := by
  cases n <;> rfl

theorem slotByte_eq (k : Option SlotNo) :
    slotByte k = (k.map fun k => BitVec.ofNat 8 k.val).getD 0xFF := by
  cases k <;> rfl

/-- The fields that LOG_READ gives of a record. -/
theorem fLog_some (r : LogRecord) (flags : BitVec 5) :
    fLog (some r) flags = (36,
      [BitVec.ofNat 8 (severity r.cls),
        (r.lane.map fun l => BitVec.ofNat 8 l.val).getD 0xFF,
        (r.slice.map fun n => BitVec.ofNat 8 n.val).getD 0xFF,
        (r.slot.map fun k => BitVec.ofNat 8 k.val).getD 0xFF]
      ++ leBytes32 r.gt ++ [BitVec.ofNat 8 r.further, flags.setWidth 8]) := by
  rw [← laneByte_eq, ← sliceByte_eq, ← slotByte_eq]
  rfl

/-- The fields that LOG_READ gives of an empty log. -/
theorem fLog_none (flags : BitVec 5) :
    fLog none flags = (36, [0, 0xFF, 0xFF, 0xFF, 0, 0, 0, 0, 0, flags.setWidth 8]) := rfl

theorem length_leBytes32 (v : Word) : (leBytes32 v).length = 4 := rfl

/-- Settles O44: the head completes with the log's fields, for the empty log and for a record. -/
theorem logRead : Obligations.LogRead := by
  unfold Obligations.LogRead
  intro h rest s ha
  obtain ⟨_, hf, _, _⟩ := id ha
  rw [exec_logRead ha]
  refine ⟨fun hempty => ?_, fun r hr => ?_⟩
  · rw [hempty, fLog_none, finish_leading hf rfl (by simp)]
  · rw [hr, fLog_some, finish_leading hf rfl (by simp [length_leBytes32])]

end Sys2Proof.Machine
end

section
namespace Sys2Proof.Machine

/-! ## CONTROL writes (R159) and START by device state (R162) -/

/-- The rows of the table that carry a CONTROL write; all four share its one decoding (log entry 18). -/
theorem exec_controlRow {w : Word} {c : Instr}
    (hc : c = .start w ∨ c = .stop w ∨ c = .softReset w ∨ c = .lock w) (s : State) :
    exec c s = .next (controlWrite w s) := by
  rcases hc with rfl | rfl | rfl | rfl <;> rfl

theorem exec_start (s : State) : exec (.start 1) s = .next (startRequest s) := rfl

/-- The LOCK bit sets the lock and never clears it (R158). -/
theorem lock_of_bit (b : Bool) (s : State) :
    (if b then { s with lock := true } else s) = { s with lock := s.lock || b } := by
  cases b
  · simp
  · simp

section
variable {w : Word} (s : State)

theorem controlWrite_of_softReset (h2 : w.getLsbD 2 = true) :
    controlWrite w s = softResetRequest s := if_pos h2

/-- Without SOFT_RESET a CONTROL write sets the lock by its bit, and then START and STOP act (R159). -/
theorem controlWrite_of_no_softReset (h2 : w.getLsbD 2 = false) :
    controlWrite w s =
      if w.getLsbD 0 && !w.getLsbD 1 then startRequest { s with lock := s.lock || w.getLsbD 3 }
      else if w.getLsbD 1 && !w.getLsbD 0 then stopRequest { s with lock := s.lock || w.getLsbD 3 }
      else { s with lock := s.lock || w.getLsbD 3 } := by
  unfold controlWrite
  rw [h2, lock_of_bit]
  rfl

theorem controlWrite_of_start (h2 : w.getLsbD 2 = false) (h0 : w.getLsbD 0 = true)
    (h1 : w.getLsbD 1 = false) :
    controlWrite w s = startRequest { s with lock := s.lock || w.getLsbD 3 } := by
  rw [controlWrite_of_no_softReset s h2, h0, h1]
  rfl

theorem controlWrite_of_stop (h2 : w.getLsbD 2 = false) (h0 : w.getLsbD 0 = false)
    (h1 : w.getLsbD 1 = true) :
    controlWrite w s = stopRequest { s with lock := s.lock || w.getLsbD 3 } := by
  rw [controlWrite_of_no_softReset s h2, h0, h1]
  rfl

/-- START with STOP is ignored like neither of them, and only the lock bit acts (R159). -/
theorem controlWrite_of_start_eq_stop (h2 : w.getLsbD 2 = false) (h01 : w.getLsbD 0 = w.getLsbD 1) :
    controlWrite w s = { s with lock := s.lock || w.getLsbD 3 } := by
  rw [controlWrite_of_no_softReset s h2, h01]
  simp

end

section
variable {s : State}

/-- START in STOPPED with none accepted: the address decides at the write (R1, R163; log entry 15). -/
theorem startRequest_of_stopped (hd : s.device = .stopped) (hn : s.startReq = none) :
    startRequest s =
      if s.stationBase.toNat % 4096 = 0 then
        { s with
          startResult := .reading, startReq := some { addr := s.stationBase, issued := false } }
      else { s with startResult := .badStation } := by
  simp only [startRequest, hd, hn, Option.isSome_none, Bool.false_eq_true, if_false]

theorem startRequest_of_accepted (hd : s.device = .stopped) (hr : s.startReq.isSome = true) :
    startRequest s = s := by
  simp only [startRequest, hd, hr, if_true]

theorem startRequest_of_zeroized (hd : s.device = .zeroized) :
    startRequest s = { s with startResult := .zeroized } := by
  simp only [startRequest, hd]

theorem startRequest_of_not_stopped (hs : s.device ≠ .stopped) (hz : s.device ≠ .zeroized) :
    startRequest s = { s with startResult := .notStopped } := by
  unfold startRequest
  split
  · next hd => exact absurd hd hs
  · next hd => exact absurd hd hz
  all_goals rfl

end

/-- Settles O2: the decoding of the written word, by SOFT_RESET first and then by START and STOP, and START
by device state. -/
theorem controlWrites : Obligations.ControlWrites := by
  unfold Obligations.ControlWrites
  refine ⟨fun w s c hc => ?_, fun s => ?_⟩
  · rw [exec_controlRow hc]
    refine ⟨fun h2 => ?_, fun h2 => ⟨?_, ?_, fun h01 => ?_⟩⟩
    · rw [controlWrite_of_softReset s h2, exec_softReset]
    · rintro ⟨h0, h1⟩
      rw [controlWrite_of_start s h2 h0 h1, exec_start]
    · rintro ⟨h0, h1⟩
      rw [controlWrite_of_stop s h2 h0 h1, exec_stop]
    · rw [controlWrite_of_start_eq_stop s h2 h01]
  · rw [exec_start]
    refine ⟨?_, ?_, fun hd => ?_, ?_⟩
    · rintro ⟨hd, hn⟩
      rw [startRequest_of_stopped hd hn]
      exact ⟨fun haligned => congrArg _ (if_pos haligned), fun hmis => congrArg _ (if_neg hmis)⟩
    · rintro ⟨hd, hr⟩
      rw [startRequest_of_accepted hd hr]
    · rw [startRequest_of_zeroized hd]
    · rintro ⟨hs, hz⟩
      rw [startRequest_of_not_stopped hs hz]

end Sys2Proof.Machine
end
